-- ==== Sys2Proof/Word.lean ====
section
/-! DEFINITION. The words the Lowdek 260 exchanges on its links: 16-bit frame words and the 8-bit fields inside them. -/

namespace Sys2Proof

/-- One 16-bit word of a frame (R151). -/
abbrev Word := BitVec 16

/-- An 8-bit field of a frame word: a tag, a code, a sequence number, a set of test bits (R166). -/
abbrev Byte := BitVec 8

end Sys2Proof
end

