-- ==== Sys2Proof/Syntax.lean ====
section
/-! DEFINITION. The commands: one constructor of `Instr` for each row of spec/opcode_table.json, with the operands the frames and
pins of the manual give it. A frame's operands are its payload words as R166 lays them out, still unread: the meanings read the
sign, the −32768 code and the bits the tables name. -/

namespace Sys2Proof

/-- The two motors of the drive, each with its power link and its current regulator. -/
inductive Motor where
  | A
  | B
  deriving DecidableEq, Repr

/-- The four serial drive links. -/
inductive LinkId where
  | C
  | A
  | B
  | S
  deriving DecidableEq, Repr

/-- The level of an input pin. -/
inductive Level where
  | low
  | high
  deriving DecidableEq, Repr

/-- The two changes of the MK level (R50). -/
inductive Edge where
  | rising
  | falling
  deriving DecidableEq, Repr

/-- The three kinds of reset (R116). -/
inductive ResetKind where
  | powerOn
  | line
  | requested
  deriving DecidableEq, Repr

/-- The payload of a Sample frame, word by word (R166). -/
structure SampleFrame where
  seq : Word
  ia : Word
  ib : Word
  udc : Word
  temp : Word
  /-- Bit 0 is the module-fault flag; the other bits are not read. -/
  flags : Word
  deriving DecidableEq, Repr

/-- One motor's four words of a Demand frame (R166). -/
structure MotorDemand where
  id : Word
  iq : Word
  theta : Word
  dtheta : Word
  deriving DecidableEq, Repr

/-- The payload of a Demand frame: sequence and start flag of word 0, then the two motors' words (R28, R166). -/
structure DemandFrame where
  seq : Byte
  start : Bool
  a : MotorDemand
  b : MotorDemand
  deriving DecidableEq, Repr

/-- The payload of a Sweep frame (R166): the group-size echo fixes how many channel values follow (R153). -/
structure SweepFrame where
  seq : Word
  testEcho : Byte
  group : BitVec 4
  values : List Word
  reference : Word
  deriving DecidableEq, Repr

/-- The commands of the part, in the order of spec/opcode_table.json. The operands of a request are its tag and its parameter
words in the order R166 gives them. -/
inductive Instr where
  /-- SAMPLE: a good Sample frame on a P-link. -/
  | sample (m : Motor) (f : SampleFrame)
  /-- DEMAND: a good Demand frame on the C-link. -/
  | demand (f : DemandFrame)
  /-- SWEEP: a good Sweep frame on the S-link. -/
  | sweep (f : SweepFrame)
  /-- FRAME_DISCARDED: a frame that fails one of R153's tests at its close. -/
  | frameDiscarded (l : LinkId)
  | readStatus (tag : Byte)
  | readEntry (tag : Byte) (table bank index : Word)
  | writeEntry (tag : Byte) (table index : Word) (values : List Word)
  | copyBank (tag : Byte) (table : Word)
  | switchBank (tag : Byte) (table : Word)
  | acknowledge (tag : Byte)
  | requestTrip (tag : Byte)
  | captureNow (tag : Byte)
  | captureRelease (tag : Byte)
  | captureDisarm (tag : Byte)
  | readCapture (tag : Byte) (n : Word)
  /-- READ_RECORD: the selector form and the two words of its value. -/
  | readRecord (tag : Byte) (form hi lo : Word)
  | eraseLog (tag : Byte)
  | calibrate (tag : Byte) (motor : Word)
  | wireCheck (tag : Byte) (channel : Word)
  | linkEnable (tag : Byte) (link : Word)
  | linkDisable (tag : Byte) (link : Word)
  | relockOn (tag : Byte) (link : Word)
  | relockOff (tag : Byte) (link : Word)
  | relockNow (tag : Byte) (link : Word)
  | clearErrorCount (tag : Byte) (link : Word)
  | setTime (tag : Byte) (hi lo : Word)
  | setNoticeMask (tag : Byte) (mask : Word)
  | reset (tag : Byte)
  | clearRestartCause (tag : Byte)
  /-- UNKNOWN_REQUEST: a Request whose code is not one of the twenty, or a LINK CONTROL whose operation is not one of the six
  (log entry 6). -/
  | unknownRequest (tag code : Byte) (params : List Word)
  /-- ACTIVE_EDGE: a change of the MK level of the kind named. -/
  | activeEdge (e : Edge)
  | markerExpiry
  | silenceTimeReached
  /-- TRIP_INPUT_CHANGE: the level of one TIN line becomes the level named. -/
  | tripInputChange (x : Fin 4) (level : Level)
  | filteredTransition (x : Fin 4)
  | powerOnReset
  | lineReset
  | resetRelease (k : ResetKind)
  | linkTimeout (l : LinkId)
  | cadenceTimeout
  | gatherExpiry
  /-- PROGRAM_COMPLETE: whether the verify of the programmed slot is good. -/
  | programComplete (good : Bool)
  /-- ERASE_COMPLETE: bit i set when slot i of the sector does not read Blank at the verify. -/
  | eraseComplete (notBlank : Word)
  /-- CLEAR_SECTOR_COMPLETE: bit i set when slot i of the sector does not read Blank at the verify. -/
  | clearSectorComplete (notBlank : Word)
  | scanEnd
  | reportSent
  | managementFrameSent
  | markerTimerStep
  | secondsCounterStep
  | lossOfSupply
  | controlFrameNotLocked
  deriving DecidableEq, Repr

end Sys2Proof
end

