-- ==== Sys2Proof/WellFormed.lean ====
section
/-! DEFINITION. Which commands a sender can form: the lengths and codes that R153 and R166 fix. -/

namespace Sys2Proof

/-- A Sweep's fixed length is its group-size echo plus 3, and the echo is 2, 4, 6 or 8 (R153). -/
def SweepFrame.lengthOk (f : SweepFrame) : Bool :=
  [2, 4, 6, 8].contains f.group.toNat && f.values.length == f.group.toNat

/-- A WRITE ENTRY request carries 24 value words (R166). -/
def writeEntryWords : Nat := 24

/-- The request codes the part knows are 1 to 20 (R166). -/
def knownRequestCode (code : Byte) : Bool := 1 ≤ code.toNat && code.toNat ≤ 20

/-- LINK CONTROL is code 16, with two parameter words, the link and the operation; six operations have rows of their own. -/
def unnamedLinkOperation (code : Byte) (params : List Word) : Bool :=
  code == 16 && params.length == 2 && 6 ≤ (params.getD 1 0).toNat

/-- The commands that a frame or an event can stand for. Only the commands below carry operands that no frame can carry. -/
def Instr.wellFormed : Instr → Bool
  | .sweep f => f.lengthOk
  | .writeEntry _ _ _ values => values.length == writeEntryWords
  | .unknownRequest _ code params => (!knownRequestCode code && params.length ≤ 254) || unnamedLinkOperation code params
  -- a requested reset is held "for no time beyond the request's event" (R116), so nothing releases it later
  | .resetRelease .requested => false
  | .sample _ _ | .demand _ | .frameDiscarded _ | .readStatus _ | .readEntry _ _ _ _ | .copyBank _ _ | .switchBank _ _
  | .acknowledge _ | .requestTrip _ | .captureNow _ | .captureRelease _ | .captureDisarm _ | .readCapture _ _
  | .readRecord _ _ _ _ | .eraseLog _ | .calibrate _ _ | .wireCheck _ _ | .linkEnable _ _ | .linkDisable _ _
  | .relockOn _ _ | .relockOff _ _ | .relockNow _ _ | .clearErrorCount _ _ | .setTime _ _ _ | .setNoticeMask _ _
  | .reset _ | .clearRestartCause _ | .activeEdge _ | .markerExpiry | .silenceTimeReached | .tripInputChange _ _
  | .filteredTransition _ | .powerOnReset | .lineReset | .resetRelease .powerOn | .resetRelease .line | .linkTimeout _
  | .cadenceTimeout | .gatherExpiry | .programComplete _ | .eraseComplete _ | .clearSectorComplete _ | .scanEnd
  | .reportSent | .managementFrameSent | .markerTimerStep | .secondsCounterStep | .lossOfSupply
  | .controlFrameNotLocked => true

end Sys2Proof
end

