-- ==== Sys2Proof/Decode.lean ====
section
/-! DEFINITION. From a frame on a line to the command it stands for (R151 to R153, R166), total on any words, and back: the frame
a command travels in. spec/opcode_table.json gives its rows no bits, so `decodeTableWord` reads nothing. -/

namespace Sys2Proof

/-- A word from its two bytes, the more significant first. -/
def wordOfBytes (hi lo : Byte) : Word := hi ++ lo

/-- Bits 15–8 of a word. -/
def hiByte (w : Word) : Byte := w.extractLsb' 8 8

/-- Bits 7–0 of a word. -/
def loByte (w : Word) : Byte := w.extractLsb' 0 8

/-- One bit into the check register: compare with the top bit, shift left entering 0, and where they differ take the exclusive-or
with 32773 (R152). -/
def crcBit (reg : Word) (b : Bool) : Word :=
  if reg.msb == b then reg <<< 1 else (reg <<< 1) ^^^ 32773#16

/-- One word into the check register, from its most significant bit (R152). -/
def crcWord (reg w : Word) : Word :=
  [15, 14, 13, 12, 11, 10, 9, 8, 7, 6, 5, 4, 3, 2, 1, 0].foldl (fun r i => crcBit r (w.getLsbD i)) reg

/-- The check word over the header and the payload words; the register starts at 65535 and is sent as it stands (R152). -/
def checkWord (words : List Word) : Word := words.foldl crcWord 65535#16

/-- A frame as a link unit finds it when the line returns to idle (R151): the whole words received, and whether a part of a word
stood at the close. -/
structure LineFrame where
  words : List Word
  ragged : Bool := false
  deriving DecidableEq, Repr

/-- The frame kinds (R166). -/
inductive FrameKind where
  | demand
  | request
  | report
  | reply
  | notice
  | sample
  | modulation
  | sweep
  | sweepOrder
  deriving DecidableEq, Repr

/-- The kind codes of the header (R166). -/
def FrameKind.code : FrameKind → Byte
  | .demand => 1
  | .request => 2
  | .report => 3
  | .reply => 4
  | .notice => 5
  | .sample => 6
  | .modulation => 7
  | .sweep => 8
  | .sweepOrder => 9

/-- A frame's words on the line: header, payload, check word (R151, R152). -/
def lineWords (k : FrameKind) (payload : List Word) : List Word :=
  let body := wordOfBytes k.code (BitVec.ofNat 8 payload.length) :: payload
  body ++ [checkWord body]

/-- The command of a Request of the code, its tag and its parameter words. `none` where the length is not the code's own (R153,
R166). A code outside 1 to 20 is taken at any length. -/
def decodeRequest (tag code : Byte) (params : List Word) : Option Instr :=
  match code.toNat, params with
  | 1, [] => some (.readStatus tag)
  | 2, [t, b, i] => some (.readEntry tag t b i)
  | 3, t :: i :: values => if values.length = writeEntryWords then some (.writeEntry tag t i values) else none
  | 4, [t] => some (.copyBank tag t)
  | 5, [t] => some (.switchBank tag t)
  | 6, [] => some (.acknowledge tag)
  | 7, [] => some (.requestTrip tag)
  | 8, [] => some (.captureNow tag)
  | 9, [] => some (.captureRelease tag)
  | 10, [] => some (.captureDisarm tag)
  | 11, [n] => some (.readCapture tag n)
  | 12, [f, hi, lo] => some (.readRecord tag f hi lo)
  | 13, [] => some (.eraseLog tag)
  | 14, [m] => some (.calibrate tag m)
  | 15, [c] => some (.wireCheck tag c)
  | 16, [l, op] =>
    match op.toNat with
    | 0 => some (.linkEnable tag l)
    | 1 => some (.linkDisable tag l)
    | 2 => some (.relockOn tag l)
    | 3 => some (.relockOff tag l)
    | 4 => some (.relockNow tag l)
    | 5 => some (.clearErrorCount tag l)
    | _ => some (.unknownRequest tag code [l, op])
  | 17, [hi, lo] => some (.setTime tag hi lo)
  | 18, [m] => some (.setNoticeMask tag m)
  | 19, [] => some (.reset tag)
  | 20, [] => some (.clearRestartCause tag)
  | _, _ => if knownRequestCode code then none else some (.unknownRequest tag code params)

/-- A Demand's fields from its nine words. -/
def decodeDemand : List Word → Option Instr
  | [w, a1, a2, a3, a4, b1, b2, b3, b4] =>
    some (.demand { seq := hiByte w, start := w.getLsbD 0, a := ⟨a1, a2, a3, a4⟩, b := ⟨b1, b2, b3, b4⟩ })
  | _ => none

/-- A Sample's fields from its six words. -/
def decodeSample (m : Motor) : List Word → Option Instr
  | [q, ia, ib, u, t, f] => some (.sample m ⟨q, ia, ib, u, t, f⟩)
  | _ => none

/-- A Sweep's fields: sequence, echoes, the channel values and, last, the reference (R166). -/
def decodeSweep : List Word → Option Instr
  | q :: e :: rest =>
    match rest.getLast? with
    | some r =>
      let f : SweepFrame := ⟨q, hiByte e, e.extractLsb' 0 4, rest.dropLast, r⟩
      if f.lengthOk then some (.sweep f) else none
    | none => none
  | _ => none

/-- The command a payload stands for, by the link and the kind code; `none` where the kind is not one the link carries towards
the part or the length is not the kind's (R153). -/
def decodePayload (l : LinkId) (kind : Byte) (declared : Byte) (payload : List Word) : Option Instr :=
  let sized : Option Instr → Option Instr := fun i => if declared.toNat = payload.length then i else none
  match l, kind.toNat with
  | .C, 1 => sized (decodeDemand payload)
  | .C, 2 =>
    match payload with
    | [] => none
    | w :: params =>
      let i := decodeRequest (hiByte w) (loByte w) params
      -- "judged by its check word alone" for a code that is not one of the twenty
      if knownRequestCode (loByte w) then sized i else i
  | .A, 6 => sized (decodeSample .A payload)
  | .B, 6 => sized (decodeSample .B payload)
  | .S, 8 => sized (decodeSweep payload)
  | _, _ => none

/-- The four tests of R153 at the close of a frame: the good frame's command, or `none` for a frame that is discarded. -/
def decodeFrame (l : LinkId) (f : LineFrame) : Option Instr :=
  if f.ragged then none
  else
    match f.words with
    | header :: rest =>
      match rest.getLast? with
      | some check =>
        if checkWord (header :: rest.dropLast) = check then
          decodePayload l (hiByte header) (loByte header) rest.dropLast
        else none
      | none => none
    | [] => none

/-- The command a frame on a watched line is: its own, or FRAME_DISCARDED (R153). -/
def receiveFrame (l : LinkId) (f : LineFrame) : Instr := (decodeFrame l f).getD (.frameDiscarded l)

/-- The payload of a Demand (R166). -/
def demandPayload (f : DemandFrame) : List Word :=
  [wordOfBytes f.seq (if f.start then 1 else 0), f.a.id, f.a.iq, f.a.theta, f.a.dtheta,
   f.b.id, f.b.iq, f.b.theta, f.b.dtheta]

/-- The payload of a Sample (R166). -/
def samplePayload (f : SampleFrame) : List Word := [f.seq, f.ia, f.ib, f.udc, f.temp, f.flags]

/-- The payload of a Sweep (R166). -/
def sweepPayload (f : SweepFrame) : List Word :=
  f.seq :: wordOfBytes f.testEcho (f.group.setWidth 8) :: (f.values ++ [f.reference])

/-- The link a command's frame comes over, its kind and its payload; `none` for a command that is an event and no frame. -/
def commandFrame : Instr → Option (LinkId × FrameKind × List Word)
  | .sample .A f => some (.A, .sample, samplePayload f)
  | .sample .B f => some (.B, .sample, samplePayload f)
  | .demand f => some (.C, .demand, demandPayload f)
  | .sweep f => some (.S, .sweep, sweepPayload f)
  | .readStatus tag => some (.C, .request, [wordOfBytes tag 1])
  | .readEntry tag t b i => some (.C, .request, [wordOfBytes tag 2, t, b, i])
  | .writeEntry tag t i values => some (.C, .request, wordOfBytes tag 3 :: t :: i :: values)
  | .copyBank tag t => some (.C, .request, [wordOfBytes tag 4, t])
  | .switchBank tag t => some (.C, .request, [wordOfBytes tag 5, t])
  | .acknowledge tag => some (.C, .request, [wordOfBytes tag 6])
  | .requestTrip tag => some (.C, .request, [wordOfBytes tag 7])
  | .captureNow tag => some (.C, .request, [wordOfBytes tag 8])
  | .captureRelease tag => some (.C, .request, [wordOfBytes tag 9])
  | .captureDisarm tag => some (.C, .request, [wordOfBytes tag 10])
  | .readCapture tag n => some (.C, .request, [wordOfBytes tag 11, n])
  | .readRecord tag f hi lo => some (.C, .request, [wordOfBytes tag 12, f, hi, lo])
  | .eraseLog tag => some (.C, .request, [wordOfBytes tag 13])
  | .calibrate tag m => some (.C, .request, [wordOfBytes tag 14, m])
  | .wireCheck tag c => some (.C, .request, [wordOfBytes tag 15, c])
  | .linkEnable tag l => some (.C, .request, [wordOfBytes tag 16, l, 0])
  | .linkDisable tag l => some (.C, .request, [wordOfBytes tag 16, l, 1])
  | .relockOn tag l => some (.C, .request, [wordOfBytes tag 16, l, 2])
  | .relockOff tag l => some (.C, .request, [wordOfBytes tag 16, l, 3])
  | .relockNow tag l => some (.C, .request, [wordOfBytes tag 16, l, 4])
  | .clearErrorCount tag l => some (.C, .request, [wordOfBytes tag 16, l, 5])
  | .setTime tag hi lo => some (.C, .request, [wordOfBytes tag 17, hi, lo])
  | .setNoticeMask tag m => some (.C, .request, [wordOfBytes tag 18, m])
  | .reset tag => some (.C, .request, [wordOfBytes tag 19])
  | .clearRestartCause tag => some (.C, .request, [wordOfBytes tag 20])
  | .unknownRequest tag code params => some (.C, .request, wordOfBytes tag code :: params)
  | .frameDiscarded _ | .activeEdge _ | .markerExpiry | .silenceTimeReached | .tripInputChange _ _
  | .filteredTransition _ | .powerOnReset | .lineReset | .resetRelease _ | .linkTimeout _ | .cadenceTimeout
  | .gatherExpiry | .programComplete _ | .eraseComplete _ | .clearSectorComplete _ | .scanEnd | .reportSent
  | .managementFrameSent | .markerTimerStep | .secondsCounterStep | .lossOfSupply | .controlFrameNotLocked => none

/-- The frame a command travels in, as its partner puts it on the line. -/
def encodeFrame (i : Instr) : Option (LinkId × LineFrame) :=
  (commandFrame i).map fun p => (p.1, { words := lineWords p.2.1 p.2.2 })

/-- The command that a word spells by the table's bits. No row of spec/opcode_table.json gives bits: its rows are frames and
events of the part, and R166 gives the frames their words (`decodeFrame`). -/
def decodeTableWord (_nbits _w : Nat) : Option Instr := none

end Sys2Proof
end

