-- ==== Sys2Proof/Config.lean ====
section
/-! DEFINITION. The values the manual leaves open. Each is a constant without a body, so nothing can be proved about which
value it is, and a claim holds whatever it is. -/

namespace Sys2Proof

/-- Whether one slot of a sector whose erase was cut short reads Blank afterwards (true) or Invalid (false). R149 says only that
the sector "reads a mix of Invalid and Blank". The first argument is the number of the cut, the second the slot (log entry 4). -/
opaque Config.cutEraseReadsBlank : Nat → Nat → Bool

/-- What field `i` of capture slot `n` holds before any snapshot has been written into it: "contents not defined" (the capture
buffer state table). No request shows it, since only written slots are valid (log entry 5). -/
opaque Config.undefinedSnapshotField : Nat → Nat → Nat

end Sys2Proof
end

