-- ==== Sys2Proof/Machine/Types.lean ====
section
/-! DEFINITION. The data each block of the part holds, block by block, as the state tables of the chapters list it; the settings
tables; and the frames the part sends. Ranges that a type does not fix are the invariant of Safety.lean. -/

namespace Sys2Proof.Machine

/-! ## Codes shared by several blocks -/

/-- The five actions, in rising order (chapter 06). -/
inductive Action where
  | ignore
  | notice
  | derate
  | hold
  | trip
  deriving DecidableEq, Repr

/-- The four drive states (R100). -/
inductive DriveState where
  | stopped
  | run
  | hold
  | tripped
  deriving DecidableEq, Repr

/-- The start-refused reasons (R103). -/
inductive StartReason where
  | none
  | calibrating
  | notCalibrated
  | linkNotLocked
  | actionAtHoldOrAbove
  | noRisingEdge
  deriving DecidableEq, Repr

/-- The three states of the marker timer (R52). -/
inductive MarkerState where
  | lost
  | acquiring
  | tracking
  deriving DecidableEq, Repr

/-- A cause, by its number 0 to 30 (R93). -/
abbrev Cause := Fin 31

/-- A set of causes: bit n set when cause n is a member (R166). -/
abbrev CauseSet := BitVec 31

/-- A grade or vibration state: 0 Normal, 1 Alert, 2 Alarm, 3 Trip-level (R68, R72). -/
abbrev Grade := Fin 4

/-! ## The settings tables (R167) -/

/-- One entry of the MOTOR table. -/
structure MotorEntry where
  kpD : Nat
  kiD : Nat
  kpQ : Nat
  kiQ : Nat
  mceil : Nat
  idMax : Nat
  ocThreshold : Nat
  offLim : Nat
  t1 : Int
  t2 : Int
  t3 : Int
  tHyst : Nat
  f1 : Nat
  f2 : Nat
  uLo : Nat
  uHi : Nat
  uHyst : Nat
  nStale : Nat
  deriving DecidableEq, Repr

/-- The MOTOR table: index 0 motor A, index 1 motor B. -/
structure MotorTable where
  a : MotorEntry
  b : MotorEntry
  deriving DecidableEq, Repr

/-- One band entry of the TORQUE table. `period` is P_t; that of band 0 is stored but not read or validated. -/
structure BandEntry where
  period : Nat
  limitA : Nat
  limitB : Nat
  total : Nat
  deriving DecidableEq, Repr

/-- The scalar entry of the TORQUE table, index 8. -/
structure TorqueScalars where
  lcontA : Nat
  lcontB : Nat
  lcontTotal : Nat
  accMax : Nat
  accRelease : Nat
  decay : Nat
  derateAction : Nat
  rampStep : Nat
  imbThr : Nat
  imbMin : Nat
  imbCount : Nat
  stallTime : Nat
  deriving DecidableEq, Repr

structure TorqueTable where
  bands : Vector BandEntry 8
  scalars : TorqueScalars
  deriving DecidableEq, Repr

/-- One channel entry of the VIBRATION table: thresholds by vibration band. -/
structure ChannelEntry where
  enable : Bool
  alert : Vector Nat 4
  alarm : Vector Nat 4
  trip : Vector Nat 4
  deriving DecidableEq, Repr

/-- The scalar entry of the VIBRATION table, index 8. -/
structure VibrationScalars where
  g : Nat
  w : Nat
  k : Nat
  pUp : Nat
  pDown : Nat
  hyst : Nat
  vp1 : Nat
  vp2 : Nat
  vp3 : Nat
  derate : Vector Nat 4
  refLo : Int
  refHi : Int
  flatFloor : Nat
  flatCount : Nat
  minShift : Nat
  nW : Nat
  deriving DecidableEq, Repr

structure VibrationTable where
  channels : Vector ChannelEntry 8
  scalars : VibrationScalars
  deriving DecidableEq, Repr

/-- The notice queue a cause's notices take (R94). -/
inductive Priority where
  | high
  | low
  deriving DecidableEq, Repr

/-- One entry of the ACTION table (R94). -/
structure ActionEntry where
  action : Action
  capture : Bool
  log : Bool
  latch : Bool
  priority : Priority
  deriving DecidableEq, Repr

/-- The sense of a trip input (chapter 06). -/
inductive Sense where
  | levelLow
  | levelHigh
  | falling
  | rising
  | bothEdges
  deriving DecidableEq, Repr

structure TripInputEntry where
  sense : Sense
  minDuration : Nat
  deriving DecidableEq, Repr

structure MarkerEntry where
  edge : Edge
  minPeriod : Nat
  maxPeriod : Nat
  deriving DecidableEq, Repr

/-- One link's entry of the LINE table; the lock count code 0 to 3 selects 6, 12, 24 or 48 good frames. -/
structure LinkEntry where
  timeout : Nat
  lockCode : Fin 4
  relock : Bool
  deriving DecidableEq, Repr

structure LineTable where
  tin : Vector TripInputEntry 4
  marker : MarkerEntry
  linkC : LinkEntry
  linkA : LinkEntry
  linkB : LinkEntry
  linkS : LinkEntry
  nPost : Nat
  deriving DecidableEq, Repr

/-- The five tables, in the order of their codes (R167). -/
inductive TableId where
  | motor
  | torque
  | vibration
  | action
  | line
  deriving DecidableEq, Repr

/-- One bank of every table. -/
structure Tables where
  motor : MotorTable
  torque : TorqueTable
  vibration : VibrationTable
  action : Vector ActionEntry 31
  line : LineTable
  deriving DecidableEq, Repr

/-- One flag per table. -/
structure TableFlags where
  motor : Bool
  torque : Bool
  vibration : Bool
  action : Bool
  line : Bool
  deriving DecidableEq, Repr

/-! ## Current regulators (chapter 01) -/

/-- A calibration in flight: Samples counted so far and the two raw sums (R25). -/
structure Calibration where
  count : Nat
  sumA : Int
  sumB : Int
  deriving DecidableEq, Repr

structure Regulator where
  offsetA : Int
  offsetB : Int
  calibrated : Bool
  calibration : Option Calibration
  /-- The integrator Id, in voltage counts × 65536. -/
  intD : Int
  /-- The integrator Iq, in voltage counts × 65536. -/
  intQ : Int
  age : Nat
  idMeas : Int
  iqMeas : Int
  udcLast : Nat
  tempLast : Int
  /-- The thermal factor Ft. -/
  ft : Nat
  deriving DecidableEq, Repr

/-! ## Torque limiter (chapter 02) -/

/-- A limited-demand record LD (R36). -/
structure LimitedDemand where
  id : Int
  iq : Int
  theta0 : Word
  dtheta : Int
  limit : Nat
  deriving DecidableEq, Repr

structure Limiter where
  ldA : LimitedDemand
  ldB : LimitedDemand
  /-- The hold factor H. -/
  h : Nat
  acc : Nat
  latch : Bool
  upRun : Nat
  downRun : Nat
  prevStart : Bool
  /-- The sequence number of the last Demand acted on (R28); 0 before the first after reset (R120). -/
  lastSeq : Byte
  deriving DecidableEq, Repr

/-! ## Marker timer (chapter 03) -/

structure MarkerTimer where
  state : MarkerState
  counter : Nat
  lastPeriod : Nat
  silence : Nat
  deriving DecidableEq, Repr

/-! ## Vibration monitor and sensor check unit (chapters 04 and 05) -/

structure Channel where
  /-- The running mean M × 65536. -/
  mean : Int
  /-- The sum of squares S of the present window. -/
  sum : Nat
  peak : Nat
  rmsLast : Nat
  peakLast : Nat
  /-- The channel state s; `none` is Off. -/
  grade : Option Grade
  upCount : Nat
  /-- The lowest grade u of the present up-run. -/
  upLowest : Grade
  downCount : Nat
  held : Bool
  deriving DecidableEq, Repr

structure VibrationMonitor where
  channels : Vector Channel 8
  window : Nat
  v : Grade
  deriving DecidableEq, Repr

/-- The flags SCU keeps for one channel. -/
structure ChannelCheck where
  flat : Bool
  flatRun : Nat
  wireFault : Bool
  deriving DecidableEq, Repr

/-- The wire check in flight (R85). -/
structure WireCheck where
  channel : Fin 8
  /-- The phase: false Baseline, true Inject. -/
  inject : Bool
  count : Nat
  sBase : Int
  sInject : Int
  nW : Nat
  minShift : Nat
  deriving DecidableEq, Repr

structure SensorCheck where
  refFail : Bool
  outRun : Nat
  inRun : Nat
  checks : Vector ChannelCheck 8
  wire : Option WireCheck
  testBits : Byte
  deriving DecidableEq, Repr

/-! ## Trip unit (chapter 06) -/

structure TripInput where
  raw : Level
  filtered : Level
  stable : Nat
  deriving DecidableEq, Repr

/-- A set of the kinds of reset (R117). -/
structure RestartSet where
  powerOn : Bool
  line : Bool
  requested : Bool
  deriving DecidableEq, Repr

structure TripUnit where
  active : CauseSet
  latched : CauseSet
  /-- The effective action E. -/
  e : Action
  drive : DriveState
  reason : StartReason
  tin : Vector TripInput 4
  restart : RestartSet
  /-- TOUT: true asserted, false released. -/
  tout : Bool
  deriving DecidableEq, Repr

/-! ## Capture buffer (chapter 07) -/

inductive CaptureState where
  | disarmed
  | armed
  | triggered
  | frozen
  deriving DecidableEq, Repr

/-- An entry of the capture's cause list (R121). -/
inductive CaptureEntry where
  | cause (c : Cause)
  | request
  deriving DecidableEq, Repr

/-- The per-motor measurements that snapshots, records and Reports carry. -/
structure MotorReading where
  iqLimited : Int
  idMeas : Int
  iqMeas : Int
  udc : Nat
  temp : Int
  deriving DecidableEq, Repr

/-- One snapshot (R120). -/
structure Snapshot where
  period : Word
  seq : Byte
  drive : DriveState
  e : Action
  h : Nat
  a : MotorReading
  b : MotorReading
  v : Grade
  worst : Option (Fin 8)
  worstRms : Nat
  deriving DecidableEq, Repr

/-- The summary of a capture (R126). -/
structure Summary where
  maxIqA : Nat
  maxIqB : Nat
  minUdcA : Nat
  minUdcB : Nat
  maxV : Grade
  valid : Nat
  short : Bool
  deriving DecidableEq, Repr

/-- What a numbered store of slots holds: the written slots only, by rising number. -/
abbrev Slots (α : Type) := List (Nat × α)

structure CaptureBuffer where
  slots : Slots Snapshot
  writeIndex : Fin 256
  valid : Nat
  state : CaptureState
  remaining : Nat
  causes : List CaptureEntry
  short : Bool
  /-- The cadence timer in 0.1 ms steps; `none` is stopped. -/
  cadence : Option Nat
  periods : Word
  deriving DecidableEq, Repr

/-! ## Record store (chapter 08) -/

/-- A trip record without its sequence number, which it receives when it is programmed. -/
structure Record where
  /-- The step of RS's time base at which the record opened; kept internally, not stored in the array. -/
  openedAt : Nat
  seconds : Nat
  timeSet : Bool
  first : Cause
  drive : DriveState
  e : Action
  marker : MarkerState
  lastPeriod : Nat
  band : Nat
  a : MotorReading
  b : MotorReading
  v : Grade
  worst : Option (Fin 8)
  worstRms : Nat
  restart : Option RestartSet
  /-- The further logged causes, each with its offset from opening in ms. -/
  causes : List (Cause × Nat)
  further : Nat
  merged : Bool
  summary : Option Summary
  deriving DecidableEq, Repr

/-- What a slot that is not Blank holds (R132). -/
inductive ArraySlot where
  | invalid
  | valid (seq : Nat) (r : Record)
  deriving DecidableEq, Repr

/-- The store states; CLEARING names the sector being erased (R145). -/
inductive StoreState where
  | scanning
  | idle
  | programming
  | erasing
  | clearing (sector : Fin 4)
  | fault
  deriving DecidableEq, Repr

/-- The record collecting causes, with its gather timer (`none` is stopped) and the bound flag. -/
structure Gathering where
  record : Record
  timer : Option Nat
  bound : Bool
  deriving DecidableEq, Repr

structure RecordStore where
  /-- The nonvolatile array; a slot not listed reads Blank. -/
  array : Slots ArraySlot
  state : StoreState
  gathering : Option Gathering
  /-- The pending queue, oldest at the head. -/
  queue : List Record
  nextSeq : Nat
  writeSlot : Fin 64
  retry : Bool
  /-- RS's time base: millisecond steps since reset release. -/
  clock : Nat
  deriving DecidableEq, Repr

/-! ## Links (chapter 09) -/

inductive LinkState where
  | down
  | searching
  | locking
  | locked
  | lost
  deriving DecidableEq, Repr

structure LinkUnit where
  state : LinkState
  good : Nat
  errors : Nat
  /-- The timeout timer in 0.1 ms steps; `none` is stopped. -/
  timer : Option Nat
  relock : Bool
  deriving DecidableEq, Repr

/-! ## Frames the part sends -/

/-- A Modulation frame (R1, R23). -/
structure Modulation where
  seq : Word
  gate : Bool
  va : Int
  vb : Int
  deriving DecidableEq, Repr

/-- A Sweep Order frame (R62). -/
structure SweepOrder where
  testBits : Byte
  group : Nat
  deriving DecidableEq, Repr

/-- A Report frame (R48). -/
structure Report where
  seq : Byte
  drive : DriveState
  e : Action
  reason : StartReason
  dropped : Bool
  marker : MarkerState
  band : Nat
  v : Grade
  worst : Option (Fin 8)
  waiting : Nat
  lastPeriod : Nat
  a : MotorReading
  limitA : Nat
  b : MotorReading
  limitB : Nat
  h : Nat
  active : CauseSet
  latched : CauseSet
  deriving DecidableEq, Repr

/-- The reply statuses (chapter 10). -/
inductive Status where
  | done
  | clamped
  | pending
  | refusedState
  | refusedBusy
  | badIndex
  | badTable
  | unknown
  deriving DecidableEq, Repr

/-- A Reply frame (R166): tag and code echoed, status, result words. -/
structure Reply where
  tag : Byte
  code : Byte
  status : Status
  result : List Word
  deriving DecidableEq, Repr

/-- The notice kinds (R166). -/
inductive NoticeKind where
  | causeRaised
  | causeCleared
  | driveState
  | tableSwitched
  | captureFrozen
  | recordStored
  | logErased
  | calDone
  | wireDone
  | linkState
  deriving DecidableEq, Repr

/-- A Notice frame (R177). -/
structure Notice where
  kind : NoticeKind
  subject1 : Word
  subject2 : Word
  demandCount : Word
  overflow : Bool
  deriving DecidableEq, Repr

/-- The two kinds of management frame a slot may carry (R165). -/
inductive ManagementFrame where
  | reply (r : Reply)
  | notice (n : Notice)
  deriving DecidableEq, Repr

/-- What the upstream line of the C-link carries at present (R164). -/
inductive LineUse where
  | idle
  | report (r : Report)
  | management (f : ManagementFrame)
  deriving DecidableEq, Repr

/-- CLU's upstream side (R164): the frame being sent and the one Report that may wait. -/
structure Upstream where
  sending : LineUse
  waiting : Option Report
  deriving DecidableEq, Repr

/-- A frame the part has put on one of its lines. -/
inductive Sent where
  | modulation (m : Motor) (f : Modulation)
  | sweepOrder (f : SweepOrder)
  | report (r : Report)
  | management (f : ManagementFrame)
  deriving DecidableEq, Repr

/-! ## Management engine (chapter 10) -/

structure Management where
  active : Tables
  standby : Tables
  pendingSwitch : TableFlags
  /-- Replies waiting for a slot, oldest first. -/
  replies : List Reply
  dropped : Bool
  high : List Notice
  low : List Notice
  /-- The notice mask: bit n enabled for the kind of code n, 1 to 10; the other bits 0. -/
  mask : Word
  seconds : Nat
  timeSet : Bool
  /-- Demands acted on, modulo 65536. -/
  demandCount : Word
  deriving DecidableEq, Repr

/-! ## Pins, resets and time bases -/

/-- The levels of the input pins that the part watches; RSTL is low exactly while `ResetHold.line`. -/
structure Pins where
  tin : Vector Level 4
  marker : Level
  deriving DecidableEq, Repr

/-- The resets being held (R116). -/
structure ResetHold where
  powerOn : Bool
  line : Bool
  deriving DecidableEq, Repr

/-- The model's own: how far the time bases of TU and RS have run into the present millisecond (log entry 2), and ME's into the present
second (R176), in 0.1 ms steps. -/
structure TimeBases where
  tenths : Nat
  secondTenths : Nat
  deriving DecidableEq, Repr

end Sys2Proof.Machine
end

