-- ==== Sys2Proof/Machine/ResetValues.lean ====
section
/-! DEFINITION. The values every reset gives the blocks (R27, R49, R59, R80, R92, R118, R131, R150, R163, R168, R179), block by
block, with the settings tables' defaults. -/

namespace Sys2Proof.Machine

/-! ## Settings-table defaults -/

/-- MOTOR defaults (R167). -/
def motorEntryDefault : MotorEntry :=
  { kpD := 0, kiD := 0, kpQ := 0, kiQ := 0, mceil := 29491, idMax := 0, ocThreshold := 16384, offLim := 512,
    t1 := 2000, t2 := 2000, t3 := 2000, tHyst := 50, f1 := 32767, f2 := 32767,
    uLo := 0, uHi := 65535, uHyst := 0, nStale := 4 }

/-- Band defaults (R49): every limit 0 and the given threshold. -/
def bandDefault (period : Nat) : BandEntry := { period := period, limitA := 0, limitB := 0, total := 0 }

/-- TORQUE defaults (R49). P_0, which the manual gives no default, holds 1, the lowest value of its range (log entry 8). -/
def torqueDefault : TorqueTable :=
  { bands := #v[bandDefault 1, bandDefault 240000, bandDefault 120000, bandDefault 60000, bandDefault 40000,
      bandDefault 30000, bandDefault 24000, bandDefault 20000]
    scalars :=
      { lcontA := 0, lcontB := 0, lcontTotal := 65534, accMax := 2000000000, accRelease := 0, decay := 0,
        derateAction := 16384, rampStep := 16, imbThr := 65534, imbMin := 0, imbCount := 65535, stallTime := 1048575 } }

/-- VIBRATION channel defaults (chapter 04): disabled, every threshold 32767. -/
def channelEntryDefault : ChannelEntry :=
  { enable := false, alert := Vector.replicate 4 32767, alarm := Vector.replicate 4 32767,
    trip := Vector.replicate 4 32767 }

/-- VIBRATION defaults (chapters 04 and 05). -/
def vibrationDefault : VibrationTable :=
  { channels := Vector.replicate 8 channelEntryDefault
    scalars :=
      { g := 2, w := 8, k := 8, pUp := 3, pDown := 3, hyst := 0, vp1 := 120000, vp2 := 40000, vp3 := 20000,
        derate := Vector.replicate 4 32767, refLo := -32767, refHi := 32767, flatFloor := 0, flatCount := 8,
        minShift := 100, nW := 64 } }

/-- ACTION defaults (R94). -/
def actionDefault : ActionEntry :=
  { action := .trip, capture := true, log := true, latch := true, priority := .high }

/-- LINE defaults of a link entry (R167): lock count code 1, relock on. -/
def linkEntryDefault (timeout : Nat) : LinkEntry := { timeout := timeout, lockCode := 1, relock := true }

/-- LINE defaults (R167). -/
def lineDefault : LineTable :=
  { tin := Vector.replicate 4 { sense := .levelLow, minDuration := 10 }
    marker := { edge := .rising, minPeriod := 2000, maxPeriod := 300000 }
    linkC := linkEntryDefault 200, linkA := linkEntryDefault 10, linkB := linkEntryDefault 10,
    linkS := linkEntryDefault 50, nPost := 128 }

/-- One bank of every table at its defaults (R168). -/
def tablesDefault : Tables :=
  { motor := { a := motorEntryDefault, b := motorEntryDefault }
    torque := torqueDefault
    vibration := vibrationDefault
    action := Vector.replicate 31 actionDefault
    line := lineDefault }

/-! ## Blocks -/

/-- A regulator after any reset (R27). -/
def regulatorReset : Regulator :=
  { offsetA := 0, offsetB := 0, calibrated := false, calibration := none, intD := 0, intQ := 0, age := 255,
    idMeas := 0, iqMeas := 0, udcLast := 0, tempLast := 0, ft := 32767 }

/-- A limited-demand record after any reset (R49). -/
def limitedDemandReset : LimitedDemand := { id := 0, iq := 0, theta0 := 0, dtheta := 0, limit := 0 }

/-- The torque limiter after any reset (R49). -/
def limiterReset : Limiter :=
  { ldA := limitedDemandReset, ldB := limitedDemandReset, h := 32767, acc := 0, latch := false, upRun := 0,
    downRun := 0, prevStart := false, lastSeq := 0 }

/-- The marker timer after any reset (R59). -/
def markerReset : MarkerTimer := { state := .lost, counter := 0, lastPeriod := 0, silence := 0 }

/-- A vibration channel after any reset (R80). -/
def channelReset : Channel :=
  { mean := 0, sum := 0, peak := 0, rmsLast := 0, peakLast := 0, grade := none, upCount := 0, upLowest := 1,
    downCount := 0, held := false }

/-- The vibration monitor after any reset (R80). -/
def vibrationReset : VibrationMonitor := { channels := Vector.replicate 8 channelReset, window := 0, v := 0 }

/-- The sensor check unit after any reset (R92). -/
def sensorReset : SensorCheck :=
  { refFail := false, outRun := 0, inRun := 0,
    checks := Vector.replicate 8 { flat := false, flatRun := 0, wireFault := false }, wire := none, testBits := 0 }

/-- The RESTART cause, number 29 (R93), as a set. -/
def restartOnly : CauseSet := 1#31 <<< 29

/-- The trip unit as every reset leaves it (R118): each raw level is read from its pin, each filtered level is high and each
stable time 0 (R111). -/
def tripUnitReset (tin : Vector Level 4) (restart : RestartSet) : TripUnit :=
  { active := 0, latched := restartOnly, e := .trip, drive := .tripped, reason := .none,
    tin := Vector.ofFn fun x : Fin 4 => { raw := tin[x], filtered := .high, stable := 0 },
    restart := restart, tout := true }

/-- The capture buffer after any reset (R131). -/
def captureReset : CaptureBuffer :=
  { slots := [], writeIndex := 0, valid := 0, state := .disarmed, remaining := 0, causes := [], short := false,
    cadence := none, periods := 0 }

/-- The record store after any reset (R150), with the array it keeps. That its own time base, `clock`, starts again at 0 is the model's
choice (log entry 43): no rule gives the time base a value after a reset. -/
def recordStoreReset (array : Slots ArraySlot) : RecordStore :=
  { array := array, state := .scanning, gathering := none, queue := [], nextSeq := 1, writeSlot := 0, retry := false,
    clock := 0 }

/-- A link unit after any reset (R163). -/
def linkReset : LinkUnit := { state := .searching, good := 0, errors := 0, timer := none, relock := true }

/-- The upstream side of CLU after any reset: the part sends no frame while a reset is held (R116). -/
def upstreamReset : Upstream := { sending := .idle, waiting := none }

/-- Every notice kind enabled: bits 1 to 10 (R179). -/
def noticeMaskAll : Word := 0x07FE

/-- The management engine after any reset (R179). -/
def managementReset : Management :=
  { active := tablesDefault, standby := tablesDefault,
    pendingSwitch := { motor := false, torque := false, vibration := false, action := false, line := false },
    replies := [], dropped := false, high := [], low := [], mask := noticeMaskAll, seconds := 0, timeSet := false,
    demandCount := 0 }

/-- The time bases start at reset release: the second's by R176, the phase of the millisecond by log entry 2. -/
def timeReset : TimeBases := { tenths := 0, secondTenths := 0 }

/-! ## What reset release adds (R118, R150) -/

/-- A motor's readings in a record or snapshot formed from the reset values. -/
def readingReset : MotorReading := { iqLimited := 0, idMeas := 0, iqMeas := 0, udc := 0, temp := 0 }

/-- The RESTART record that reset release opens (R150), at step 0 of RS's time base (log entry 43). -/
def restartRecord (restart : RestartSet) : Record :=
  { openedAt := 0, seconds := 0, timeSet := false, first := 29, drive := .tripped, e := .trip, marker := .lost,
    lastPeriod := 0, band := 0, a := readingReset, b := readingReset, v := 0, worst := none, worstRms := 0,
    restart := some restart, causes := [], further := 0, merged := false, summary := none }

/-- The first notice after every reset: CAUSE_RAISED of RESTART (R118, R179). -/
def restartNotice : Notice :=
  { kind := .causeRaised, subject1 := 29, subject2 := 0, demandCount := 0, overflow := false }

/-- A power-on reset makes the restart cause set this (R117). -/
def powerOnOnly : RestartSet := { powerOn := true, line := false, requested := false }

end Sys2Proof.Machine
end

