-- ==== Sys2Proof/Machine/State.lean ====
section
/-! DEFINITION. The state of the part: every block's own data, the pins, the resets held, what its lines have carried, and the
queue of commands waiting; the ways a step can stop; and the state right after a power-on reset. -/

namespace Sys2Proof.Machine

/-- The whole state of the part. The fields `time`, `draws`, `sent` and `pending` are the model's own. -/
structure State where
  /-- VDD and VDDIO are supplied (R116, R149). -/
  supply : Bool
  /-- The resets being held (R116). -/
  held : ResetHold
  pins : Pins
  regA : Regulator
  regB : Regulator
  tl : Limiter
  mt : MarkerTimer
  vm : VibrationMonitor
  scu : SensorCheck
  tu : TripUnit
  cb : CaptureBuffer
  rs : RecordStore
  linkC : LinkUnit
  linkA : LinkUnit
  linkB : LinkUnit
  linkS : LinkUnit
  up : Upstream
  me : Management
  time : TimeBases
  /-- How many sector erases have been cut short: the argument of the free value `Config.cutEraseReadsBlank`. -/
  draws : Nat
  /-- Every frame the part has begun to send, newest first. -/
  sent : List Sent
  /-- The commands waiting, first in first out. -/
  pending : List Instr
  deriving DecidableEq, Repr

/-- The faults that stop the machine. The manual gives the part none: every condition it detects is a cause at the trip unit,
and the part goes on. The type has no constructor, so no step ends in a fault. -/
inductive Fault
  deriving DecidableEq, Repr

/-- The refusals of a command. -/
inductive Refusal where
  /-- Raised by `exec` alone, for a command that has no meaning yet (safe: nothing is claimed of it). No arm raises it now. -/
  | notModelled (mnemonic : String)
  deriving DecidableEq, Repr

/-- The part right after the release of a power-on reset, with every trip input high, MK low and the array blank
(log entries 1 and 9): every block at its reset values, RESTART raised (R118), its record gathering (R150), its notice queued. -/
def State.reset : State :=
  { supply := true
    held := { powerOn := false, line := false }
    pins := { tin := Vector.replicate 4 .high, marker := .low }
    regA := regulatorReset
    regB := regulatorReset
    tl := limiterReset
    mt := markerReset
    vm := vibrationReset
    scu := sensorReset
    tu := tripUnitReset (Vector.replicate 4 .high) powerOnOnly
    cb := captureReset
    rs := { recordStoreReset [] with
            gathering := some { record := restartRecord powerOnOnly, timer := some 0, bound := false } }
    linkC := linkReset
    linkA := linkReset
    linkB := linkReset
    linkS := linkReset
    up := upstreamReset
    me := { managementReset with high := [restartNotice] }
    time := timeReset
    draws := 0
    sent := []
    pending := [] }

end Sys2Proof.Machine
end

