-- ==== Sys2Proof/Machine/Operands.lean ====
section
/-! DEFINITION. Reading and writing fields: the numeric conventions of chapter 00 (Q15, saturation, rounding, isqrt), the codes of
R166, and the layouts and limits of the settings-table entries (R167, R169). -/

namespace Sys2Proof.Machine

/-! ## Numeric conventions (chapter 00) -/

/-- A signed 16-bit field as the part reads it: −32768 is read as −32767. -/
def signed (w : Word) : Int := if w.toInt = -32768 then -32767 else w.toInt

/-- clamp(x, ±a): x limited to −a..+a. -/
def clamp (x : Int) (a : Nat) : Int := max (-(a : Int)) (min x a)

/-- Saturated: limited symmetrically to −32767..+32767. -/
def sat (x : Int) : Int := clamp x 32767

/-- Rounded division, halves upward: floor((x + d/2) / d) for an even d. -/
def rounded (x : Int) (d : Nat) : Int := (x + (d / 2 : Nat)) / d

/-- One bit of the root, from the top: keep the bit where the square still fits. -/
def isqrtBits (n : Nat) : Nat → Nat → Nat
  | 0, r => r
  | k + 1, r => if (r + 2 ^ k) * (r + 2 ^ k) ≤ n then isqrtBits n k (r + 2 ^ k) else isqrtBits n k r

/-- isqrt(n): the largest integer whose square does not exceed n. -/
def isqrt (n : Nat) : Nat := isqrtBits n (n.log2 / 2 + 1) 0

/-! ## Words of frames (R166) -/

/-- A signed field as its 16-bit two's complement. -/
def intWord (x : Int) : Word := BitVec.ofInt 16 x

/-- An unsigned field of 16 bits. -/
def natWord (n : Nat) : Word := BitVec.ofNat 16 n

/-- A quantity of more than 16 bits: two words, the more significant first. -/
def wideWords (n : Nat) : List Word := [natWord (n / 65536), natWord n]

/-- The 32-bit value of two words, the more significant first. -/
def wideValue (hi lo : Word) : Nat := hi.toNat * 65536 + lo.toNat

/-- A flag as the bit it takes. -/
def flag (b : Bool) : Nat := if b then 1 else 0

/-! ## Codes (R166) -/

def Action.code : Action → Nat
  | .ignore => 0
  | .notice => 1
  | .derate => 2
  | .hold => 3
  | .trip => 4

/-- The action of a code; a code above the highest takes the highest, Trip (R169). -/
def Action.ofCode : Nat → Action
  | 0 => .ignore
  | 1 => .notice
  | 2 => .derate
  | 3 => .hold
  | _ => .trip

def DriveState.code : DriveState → Nat
  | .stopped => 0
  | .run => 1
  | .hold => 2
  | .tripped => 3

def StartReason.code : StartReason → Nat
  | .none => 0
  | .calibrating => 1
  | .notCalibrated => 2
  | .linkNotLocked => 3
  | .actionAtHoldOrAbove => 4
  | .noRisingEdge => 5

def MarkerState.code : MarkerState → Nat
  | .lost => 0
  | .acquiring => 1
  | .tracking => 2

/-- Worst channel: 0–7, or 15 for none. -/
def worstCode : Option (Fin 8) → Nat
  | some c => c.val
  | none => 15

def linkCode : LinkId → Nat
  | .C => 0
  | .A => 1
  | .B => 2
  | .S => 3

/-- The link a code names; none outside the four (R161). -/
def linkOfCode (w : Word) : Option LinkId :=
  match w.toNat with
  | 0 => some .C
  | 1 => some .A
  | 2 => some .B
  | 3 => some .S
  | _ => none

def LinkState.code : LinkState → Nat
  | .down => 0
  | .searching => 1
  | .locking => 2
  | .locked => 3
  | .lost => 4

def motorCode : Motor → Nat
  | .A => 0
  | .B => 1

/-- The motor a code names; none but 0 and 1 (R24). -/
def motorOfCode (w : Word) : Option Motor :=
  match w.toNat with
  | 0 => some .A
  | 1 => some .B
  | _ => none

/-- The power link of a motor. -/
def powerLink : Motor → LinkId
  | .A => .A
  | .B => .B

def CaptureState.code : CaptureState → Nat
  | .disarmed => 0
  | .armed => 1
  | .triggered => 2
  | .frozen => 3

def CaptureEntry.code : CaptureEntry → Nat
  | .cause c => c.val
  | .request => 31

def StoreState.code : StoreState → Nat
  | .scanning => 0
  | .idle => 1
  | .programming => 2
  | .erasing => 3
  | .clearing _ => 4
  | .fault => 5

def Status.code : Status → Nat
  | .done => 0
  | .clamped => 1
  | .pending => 2
  | .refusedState => 3
  | .refusedBusy => 4
  | .badIndex => 5
  | .badTable => 6
  | .unknown => 7

def NoticeKind.code : NoticeKind → Nat
  | .causeRaised => 1
  | .causeCleared => 2
  | .driveState => 3
  | .tableSwitched => 4
  | .captureFrozen => 5
  | .recordStored => 6
  | .logErased => 7
  | .calDone => 8
  | .wireDone => 9
  | .linkState => 10

def TableId.code : TableId → Nat
  | .motor => 0
  | .torque => 1
  | .vibration => 2
  | .action => 3
  | .line => 4

/-- The table a code names; none above 4 (R169). -/
def tableOfCode (w : Word) : Option TableId :=
  match w.toNat with
  | 0 => some .motor
  | 1 => some .torque
  | 2 => some .vibration
  | 3 => some .action
  | 4 => some .line
  | _ => none

def Sense.code : Sense → Nat
  | .levelLow => 0
  | .levelHigh => 1
  | .falling => 2
  | .rising => 3
  | .bothEdges => 4

/-- The sense of a code; a code above the highest takes the highest, both edges (R169). -/
def Sense.ofCode : Nat → Sense
  | 0 => .levelLow
  | 1 => .levelHigh
  | 2 => .falling
  | 3 => .rising
  | _ => .bothEdges

def edgeCode : Edge → Nat
  | .rising => 0
  | .falling => 1

def Edge.ofCode : Nat → Edge
  | 0 => .rising
  | _ => .falling

def Priority.code : Priority → Nat
  | .high => 0
  | .low => 1

def Priority.ofCode : Nat → Priority
  | 0 => .high
  | _ => .low

/-- The lock count a code selects: 6, 12, 24 or 48 good frames (chapter 09). -/
def lockCount (code : Fin 4) : Nat := 6 * 2 ^ code.val

/-- A restart cause set as three bits: 0 power-on, 1 line, 2 requested (R117). -/
def RestartSet.code (r : RestartSet) : Nat := flag r.powerOn + 2 * flag r.line + 4 * flag r.requested

/-! ## Settings-table entries as fields (R167, R169) -/

/-- How one field of an entry travels and what it is limited to. -/
structure FieldSpec where
  lo : Int
  hi : Int
  /-- The field takes two words, the more significant first. -/
  wide : Bool := false
  /-- The field is read as a signed count. -/
  isSigned : Bool := false
  /-- After limiting, an odd value is lowered by one (G). -/
  even : Bool := false
  deriving DecidableEq, Repr

/-- Limiting one field to its range (R169). -/
def FieldSpec.limit (f : FieldSpec) (x : Int) : Int :=
  let y := max f.lo (min x f.hi)
  if f.even && y % 2 == 1 then y - 1 else y

/-- The fields' values as the request carries them, in word order. Words that are missing read 0. -/
def readFields : List FieldSpec → List Word → List Int
  | [], _ => []
  | f :: fs, ws =>
    if f.wide then (wideValue (ws.getD 0 0) (ws.getD 1 0) : Nat) :: readFields fs (ws.drop 2)
    else if f.isSigned then signed (ws.getD 0 0) :: readFields fs (ws.drop 1)
    else ((ws.getD 0 0).toNat : Int) :: readFields fs (ws.drop 1)

/-- The words the fields travel in. -/
def writeFields : List FieldSpec → List Int → List Word
  | [], _ => []
  | f :: fs, xs =>
    if f.wide then wideWords (xs.getD 0 0).toNat ++ writeFields fs (xs.drop 1)
    else intWord (xs.getD 0 0) :: writeFields fs (xs.drop 1)

/-- Every field limited to its range. -/
def limitFields (fs : List FieldSpec) (xs : List Int) : List Int := fs.zipWith (fun f x => f.limit x) xs

/-- How many fields the limits changed (R169). -/
def countChanged (xs ys : List Int) : Nat := ((xs.zipWith (fun x y => x != y) ys).filter id).length

/-- The n-th field as a natural number. -/
def fieldNat (xs : List Int) (n : Nat) : Nat := (xs.getD n 0).toNat

/-- The n-th field as an integer. -/
def fieldInt (xs : List Int) (n : Nat) : Int := xs.getD n 0

/-- The n-th field as an off/on flag. -/
def fieldBool (xs : List Int) (n : Nat) : Bool := xs.getD n 0 != 0

/-- An off/on flag as a field. -/
def boolField (b : Bool) : Int := (flag b : Nat)

/-- A field of 16 bits with the range 0–65535. -/
def fullRange : FieldSpec := { lo := 0, hi := 65535 }

/-- An unsigned Q15 factor or a limit: 0–32767. -/
def q15Range : FieldSpec := { lo := 0, hi := 32767 }

/-- An off/on field. -/
def flagRange : FieldSpec := { lo := 0, hi := 1 }

/-- A period or time in ms of two words with the given least value. -/
def periodRange (lo : Int) : FieldSpec := { lo := lo, hi := 1048575, wide := true }

/-- MOTOR: 18 fields (R167). -/
def motorFields : List FieldSpec :=
  [fullRange, fullRange, fullRange, fullRange, { lo := 8192, hi := 32767 }, q15Range, { lo := 1024, hi := 32767 },
   { lo := 0, hi := 4095 },
   { lo := -400, hi := 2000, isSigned := true }, { lo := -400, hi := 2000, isSigned := true },
   { lo := -400, hi := 2000, isSigned := true }, { lo := 0, hi := 500 }, q15Range, q15Range,
   fullRange, fullRange, fullRange, { lo := 1, hi := 15 }]

def MotorEntry.toFields (e : MotorEntry) : List Int :=
  [e.kpD, e.kiD, e.kpQ, e.kiQ, e.mceil, e.idMax, e.ocThreshold, e.offLim, e.t1, e.t2, e.t3, e.tHyst, e.f1, e.f2,
   e.uLo, e.uHi, e.uHyst, e.nStale]

def MotorEntry.ofFields (xs : List Int) : MotorEntry :=
  { kpD := fieldNat xs 0, kiD := fieldNat xs 1, kpQ := fieldNat xs 2, kiQ := fieldNat xs 3, mceil := fieldNat xs 4,
    idMax := fieldNat xs 5, ocThreshold := fieldNat xs 6, offLim := fieldNat xs 7, t1 := fieldInt xs 8,
    t2 := fieldInt xs 9, t3 := fieldInt xs 10, tHyst := fieldNat xs 11, f1 := fieldNat xs 12, f2 := fieldNat xs 13,
    uLo := fieldNat xs 14, uHi := fieldNat xs 15, uHyst := fieldNat xs 16, nStale := fieldNat xs 17 }

/-- TORQUE, indices 0–7: P_t, limit_A, limit_B, total. -/
def bandFields : List FieldSpec := [periodRange 1, q15Range, q15Range, { lo := 0, hi := 65534 }]

def BandEntry.toFields (e : BandEntry) : List Int := [e.period, e.limitA, e.limitB, e.total]

def BandEntry.ofFields (xs : List Int) : BandEntry :=
  { period := fieldNat xs 0, limitA := fieldNat xs 1, limitB := fieldNat xs 2, total := fieldNat xs 3 }

/-- An accumulator level of two words: 0–2,000,000,000 (chapter 02). -/
def accRange : FieldSpec := { lo := 0, hi := 2000000000, wide := true }

/-- TORQUE, index 8. -/
def torqueScalarFields : List FieldSpec :=
  [q15Range, q15Range, { lo := 0, hi := 65534 }, accRange, accRange, fullRange, q15Range, { lo := 1, hi := 32767 },
   { lo := 0, hi := 65534 }, { lo := 0, hi := 65534 }, { lo := 1, hi := 65535 }, periodRange 0]

def TorqueScalars.toFields (e : TorqueScalars) : List Int :=
  [e.lcontA, e.lcontB, e.lcontTotal, e.accMax, e.accRelease, e.decay, e.derateAction, e.rampStep, e.imbThr, e.imbMin,
   e.imbCount, e.stallTime]

def TorqueScalars.ofFields (xs : List Int) : TorqueScalars :=
  { lcontA := fieldNat xs 0, lcontB := fieldNat xs 1, lcontTotal := fieldNat xs 2, accMax := fieldNat xs 3,
    accRelease := fieldNat xs 4, decay := fieldNat xs 5, derateAction := fieldNat xs 6, rampStep := fieldNat xs 7,
    imbThr := fieldNat xs 8, imbMin := fieldNat xs 9, imbCount := fieldNat xs 10, stallTime := fieldNat xs 11 }

/-- VIBRATION, indices 0–7: enable, alert[0–3], alarm[0–3], trip[0–3]. -/
def channelFields : List FieldSpec := flagRange :: List.replicate 12 q15Range

def ChannelEntry.toFields (e : ChannelEntry) : List Int :=
  boolField e.enable :: (e.alert.toList ++ e.alarm.toList ++ e.trip.toList).map Int.ofNat

def ChannelEntry.ofFields (xs : List Int) : ChannelEntry :=
  { enable := fieldBool xs 0
    alert := Vector.ofFn fun b : Fin 4 => fieldNat xs (1 + b.val)
    alarm := Vector.ofFn fun b : Fin 4 => fieldNat xs (5 + b.val)
    trip := Vector.ofFn fun b : Fin 4 => fieldNat xs (9 + b.val) }

/-- VIBRATION, index 8. -/
def vibrationScalarFields : List FieldSpec :=
  [{ lo := 2, hi := 8, even := true }, { lo := 4, hi := 12 }, { lo := 4, hi := 12 }, { lo := 1, hi := 8 },
   { lo := 1, hi := 8 }, q15Range, periodRange 1, periodRange 1, periodRange 1, q15Range, q15Range, q15Range, q15Range,
   { lo := -32767, hi := 32767, isSigned := true }, { lo := -32767, hi := 32767, isSigned := true },
   { lo := 0, hi := 1073676289, wide := true }, { lo := 1, hi := 255 }, { lo := 0, hi := 65534 },
   { lo := 8, hi := 256 }]

def VibrationScalars.toFields (e : VibrationScalars) : List Int :=
  [e.g, e.w, e.k, e.pUp, e.pDown, e.hyst, e.vp1, e.vp2, e.vp3, e.derate[0], e.derate[1], e.derate[2], e.derate[3],
   e.refLo, e.refHi, e.flatFloor, e.flatCount, e.minShift, e.nW]

def VibrationScalars.ofFields (xs : List Int) : VibrationScalars :=
  { g := fieldNat xs 0, w := fieldNat xs 1, k := fieldNat xs 2, pUp := fieldNat xs 3, pDown := fieldNat xs 4,
    hyst := fieldNat xs 5, vp1 := fieldNat xs 6, vp2 := fieldNat xs 7, vp3 := fieldNat xs 8,
    derate := Vector.ofFn fun v : Fin 4 => fieldNat xs (9 + v.val), refLo := fieldInt xs 13, refHi := fieldInt xs 14,
    flatFloor := fieldNat xs 15, flatCount := fieldNat xs 16, minShift := fieldNat xs 17, nW := fieldNat xs 18 }

/-- ACTION: action, capture, log, latch, priority. -/
def actionFields : List FieldSpec := [{ lo := 0, hi := 4 }, flagRange, flagRange, flagRange, flagRange]

def ActionEntry.toFields (e : ActionEntry) : List Int :=
  [e.action.code, boolField e.capture, boolField e.log, boolField e.latch, e.priority.code]

def ActionEntry.ofFields (xs : List Int) : ActionEntry :=
  { action := Action.ofCode (fieldNat xs 0), capture := fieldBool xs 1, log := fieldBool xs 2, latch := fieldBool xs 3,
    priority := Priority.ofCode (fieldNat xs 4) }

/-- LINE, indices 0–3: sense, min_duration. -/
def tripInputFields : List FieldSpec := [{ lo := 0, hi := 4 }, { lo := 0, hi := 1000 }]

def TripInputEntry.toFields (e : TripInputEntry) : List Int := [e.sense.code, e.minDuration]

def TripInputEntry.ofFields (xs : List Int) : TripInputEntry :=
  { sense := Sense.ofCode (fieldNat xs 0), minDuration := fieldNat xs 1 }

/-- LINE, index 4: edge, min_period, max_period. -/
def markerFields : List FieldSpec :=
  [flagRange, { lo := 0, hi := 1048574, wide := true }, periodRange 1]

def MarkerEntry.toFields (e : MarkerEntry) : List Int := [edgeCode e.edge, e.minPeriod, e.maxPeriod]

def MarkerEntry.ofFields (xs : List Int) : MarkerEntry :=
  { edge := Edge.ofCode (fieldNat xs 0), minPeriod := fieldNat xs 1, maxPeriod := fieldNat xs 2 }

/-- LINE, indices 5–8: timeout, lock count code, relock. -/
def linkFields : List FieldSpec := [{ lo := 1, hi := 65535 }, { lo := 0, hi := 3 }, flagRange]

def LinkEntry.toFields (e : LinkEntry) : List Int := [e.timeout, e.lockCode.val, boolField e.relock]

def LinkEntry.ofFields (xs : List Int) : LinkEntry :=
  { timeout := fieldNat xs 0, lockCode := Fin.ofNat 4 (fieldNat xs 1), relock := fieldBool xs 2 }

/-- LINE, index 9: N_post. -/
def captureFields : List FieldSpec := [{ lo := 0, hi := 255 }]

/-- The layout and the present values of one entry of a bank; `none` for an index beyond the table's last entry (R167). -/
def Tables.entry (t : Tables) (table : TableId) (index : Nat) : Option (List FieldSpec × List Int) :=
  match table with
  | .motor =>
    match index with
    | 0 => some (motorFields, t.motor.a.toFields)
    | 1 => some (motorFields, t.motor.b.toFields)
    | _ => none
  | .torque =>
    if h : index < 8 then some (bandFields, t.torque.bands[index].toFields)
    else if index = 8 then some (torqueScalarFields, t.torque.scalars.toFields)
    else none
  | .vibration =>
    if h : index < 8 then some (channelFields, t.vibration.channels[index].toFields)
    else if index = 8 then some (vibrationScalarFields, t.vibration.scalars.toFields)
    else none
  | .action =>
    if h : index < 31 then some (actionFields, t.action[index].toFields) else none
  | .line =>
    if h : index < 4 then some (tripInputFields, t.line.tin[index].toFields)
    else
      match index with
      | 4 => some (markerFields, t.line.marker.toFields)
      | 5 => some (linkFields, t.line.linkC.toFields)
      | 6 => some (linkFields, t.line.linkA.toFields)
      | 7 => some (linkFields, t.line.linkB.toFields)
      | 8 => some (linkFields, t.line.linkS.toFields)
      | 9 => some (captureFields, [(t.line.nPost : Int)])
      | _ => none

/-- A bank with one entry's fields replaced; unchanged for an index beyond the table's last entry. -/
def Tables.setEntry (t : Tables) (table : TableId) (index : Nat) (xs : List Int) : Tables :=
  match table with
  | .motor =>
    match index with
    | 0 => { t with motor.a := MotorEntry.ofFields xs }
    | 1 => { t with motor.b := MotorEntry.ofFields xs }
    | _ => t
  | .torque =>
    if h : index < 8 then { t with torque.bands := t.torque.bands.set index (BandEntry.ofFields xs) }
    else if index = 8 then { t with torque.scalars := TorqueScalars.ofFields xs }
    else t
  | .vibration =>
    if h : index < 8 then { t with vibration.channels := t.vibration.channels.set index (ChannelEntry.ofFields xs) }
    else if index = 8 then { t with vibration.scalars := VibrationScalars.ofFields xs }
    else t
  | .action =>
    if h : index < 31 then { t with action := t.action.set index (ActionEntry.ofFields xs) } else t
  | .line =>
    if h : index < 4 then { t with line.tin := t.line.tin.set index (TripInputEntry.ofFields xs) }
    else
      match index with
      | 4 => { t with line.marker := MarkerEntry.ofFields xs }
      | 5 => { t with line.linkC := LinkEntry.ofFields xs }
      | 6 => { t with line.linkA := LinkEntry.ofFields xs }
      | 7 => { t with line.linkB := LinkEntry.ofFields xs }
      | 8 => { t with line.linkS := LinkEntry.ofFields xs }
      | 9 => { t with line.nPost := fieldNat xs 0 }
      | _ => t

end Sys2Proof.Machine
end

