-- ==== Sys2Proof/Machine/Ops.lean ====
section
/-! DEFINITION. The named operations over State that the blocks share: one-field updates, the numbered stores of slots, the
per-motor and per-link parts of State, the queueing of notices and Replies, and what the readers of several blocks read (speed
bands, channels in service, the worst channel, a motor's readings). -/

namespace Sys2Proof.Machine

/-! ## One-field updates -/

def State.setSupply (s : State) (x : Bool) : State := { s with supply := x }
def State.setHeld (s : State) (x : ResetHold) : State := { s with held := x }
def State.setPins (s : State) (x : Pins) : State := { s with pins := x }
def State.setRegA (s : State) (x : Regulator) : State := { s with regA := x }
def State.setRegB (s : State) (x : Regulator) : State := { s with regB := x }
def State.setTl (s : State) (x : Limiter) : State := { s with tl := x }
def State.setMt (s : State) (x : MarkerTimer) : State := { s with mt := x }
def State.setVm (s : State) (x : VibrationMonitor) : State := { s with vm := x }
def State.setScu (s : State) (x : SensorCheck) : State := { s with scu := x }
def State.setTu (s : State) (x : TripUnit) : State := { s with tu := x }
def State.setCb (s : State) (x : CaptureBuffer) : State := { s with cb := x }
def State.setRs (s : State) (x : RecordStore) : State := { s with rs := x }
def State.setLinkC (s : State) (x : LinkUnit) : State := { s with linkC := x }
def State.setLinkA (s : State) (x : LinkUnit) : State := { s with linkA := x }
def State.setLinkB (s : State) (x : LinkUnit) : State := { s with linkB := x }
def State.setLinkS (s : State) (x : LinkUnit) : State := { s with linkS := x }
def State.setUp (s : State) (x : Upstream) : State := { s with up := x }
def State.setMe (s : State) (x : Management) : State := { s with me := x }
def State.setTime (s : State) (x : TimeBases) : State := { s with time := x }
def State.setDraws (s : State) (x : Nat) : State := { s with draws := x }
def State.setSent (s : State) (x : List Sent) : State := { s with sent := x }
def State.setPending (s : State) (x : List Instr) : State := { s with pending := x }

/-! ## Numbered stores of slots -/

/-- What slot `n` holds; `none` where nothing is listed. -/
def slotAt {α : Type} (n : Nat) : Slots α → Option α
  | [] => none
  | (k, v) :: rest => if k = n then some v else slotAt n rest

/-- Write slot `n`, keeping the numbers rising. -/
def slotPut {α : Type} (n : Nat) (x : α) : Slots α → Slots α
  | [] => [(n, x)]
  | (k, v) :: rest =>
    if n < k then (n, x) :: (k, v) :: rest
    else if n = k then (n, x) :: rest
    else (k, v) :: slotPut n x rest

/-- Slot `n` is no longer listed. -/
def slotClear {α : Type} (n : Nat) : Slots α → Slots α
  | [] => []
  | (k, v) :: rest => if k = n then rest else (k, v) :: slotClear n rest

/-- The one form of a store: numbers strictly rising. -/
def slotsOk {α : Type} : Slots α → Bool
  | [] => true
  | [_] => true
  | (j, _) :: (k, v) :: rest => decide (j < k) && slotsOk ((k, v) :: rest)

/-! ## The parts of State that a motor or a link names -/

def State.reg (s : State) : Motor → Regulator
  | .A => s.regA
  | .B => s.regB

def State.setReg (s : State) : Motor → Regulator → State
  | .A, r => s.setRegA r
  | .B, r => s.setRegB r

def State.ld (s : State) : Motor → LimitedDemand
  | .A => s.tl.ldA
  | .B => s.tl.ldB

def State.link (s : State) : LinkId → LinkUnit
  | .C => s.linkC
  | .A => s.linkA
  | .B => s.linkB
  | .S => s.linkS

def State.setLink (s : State) : LinkId → LinkUnit → State
  | .C, u => s.setLinkC u
  | .A, u => s.setLinkA u
  | .B, u => s.setLinkB u
  | .S, u => s.setLinkS u

/-- The active bank of every table: what the blocks read at the point of use (R168). -/
def State.act (s : State) : Tables := s.me.active

/-- The MOTOR entry of a motor in one bank. -/
def Tables.motorEntry (t : Tables) : Motor → MotorEntry
  | .A => t.motor.a
  | .B => t.motor.b

/-- The LINE entry of a link in one bank. -/
def Tables.linkEntry (t : Tables) : LinkId → LinkEntry
  | .C => t.line.linkC
  | .A => t.line.linkA
  | .B => t.line.linkB
  | .S => t.line.linkS

/-- A reset is being held, or the part is without supply: the blocks hold their reset values, no input is watched and no frame is
taken (R116). -/
def State.inReset (s : State) : Bool := s.held.powerOn || s.held.line || !s.supply

/-! ## Timers -/

/-- A running timer's next step brings it to its limit, or finds it there already (R155, R162). A stopped timer has no step. -/
def timerDue (limit : Nat) : Option Nat → Bool
  | some n => decide (limit ≤ n + 1)
  | none => false

/-- A running timer takes one step. -/
def timerNext (timer : Option Nat) : Option Nat := timer.map (· + 1)

/-! ## Frames onto the lines -/

/-- A frame begins to be sent. -/
def State.send (s : State) (f : Sent) : State := s.setSent (f :: s.sent)

/-- The Modulation that keeps a module off: the Sample's sequence, gates off, zero voltages (R16, R158). -/
def gatesOff (seq : Word) : Modulation := { seq := seq, gate := false, va := 0, vb := 0 }

/-! ## Notices (R177) -/

/-- The last entry of a full queue takes the overflow flag. -/
def flagTail : List Notice → List Notice
  | [] => []
  | [n] => [{ n with overflow := true }]
  | n :: m :: rest => n :: flagTail (m :: rest)

/-- A queue holds at most 8 entries; a notice that finds it full marks its tail and is lost. -/
def pushNotice (q : List Notice) (n : Notice) : List Notice :=
  if q.length < 8 then q ++ [n] else flagTail q

/-- Queue a notice of a kind with its two subject words, in the queue named, unless the mask disables the kind (R177). -/
def State.notify (s : State) (k : NoticeKind) (subject1 subject2 : Word) (p : Priority) : State :=
  if s.me.mask.getLsbD k.code then
    let n : Notice :=
      { kind := k, subject1 := subject1, subject2 := subject2, demandCount := s.me.demandCount, overflow := false }
    match p with
    | .high => s.setMe { s.me with high := pushNotice s.me.high n }
    | .low => s.setMe { s.me with low := pushNotice s.me.low n }
  else s

/-! ## What the readers of several blocks read -/

/-- The thresholds P_1 to P_7 of a TORQUE bank. -/
def TorqueTable.thresholds (t : TorqueTable) : List Nat :=
  [t.bands[1].period, t.bands[2].period, t.bands[3].period, t.bands[4].period, t.bands[5].period, t.bands[6].period,
   t.bands[7].period]

/-- How many thresholds a period is below. -/
def countBelow (period : Nat) (thresholds : List Nat) : Nat := (thresholds.filter fun p => period < p).length

/-- The torque speed band (R56): 0 in Lost and Acquiring. -/
def State.torqueBand (s : State) : Nat :=
  match s.mt.state with
  | .tracking => countBelow s.mt.lastPeriod s.act.torque.thresholds
  | .lost | .acquiring => 0

/-- The vibration band (R57): 0 in Lost and Acquiring. -/
def State.vibrationBand (s : State) : Nat :=
  let t := s.act.vibration.scalars
  match s.mt.state with
  | .tracking => countBelow s.mt.lastPeriod [t.vp1, t.vp2, t.vp3]
  | .lost | .acquiring => 0

/-- Whether a channel is in service under a VIBRATION bank: enabled, with its number below G (R63). -/
def VibrationTable.inService (t : VibrationTable) (c : Fin 8) : Bool :=
  t.channels[c].enable && decide (c.val < t.scalars.g)

/-- Whether a channel is in service now. -/
def State.inService (s : State) (c : Fin 8) : Bool := s.act.vibration.inService c

/-- A channel's state as a number; a channel in service has a state (R63). -/
def Channel.level (c : Channel) : Grade := c.grade.getD 0

/-- Whether channel `c` stands above channel `b`: the higher state, then the higher rms_last (R73). -/
def State.worseThan (s : State) (c b : Fin 8) : Bool :=
  let x := s.vm.channels[c]
  let y := s.vm.channels[b]
  decide (y.level < x.level) || (x.level == y.level && decide (y.rmsLast < x.rmsLast))

/-- The worst channel (R73): of channels equal in both, the one with the lower number. -/
def State.worst (s : State) : Option (Fin 8) :=
  (List.finRange 8).foldl
    (fun best c =>
      if s.inService c then
        match best with
        | none => some c
        | some b => if s.worseThan c b then some c else some b
      else best)
    none

/-- The worst channel's rms_last; 0 when there is none (R73). -/
def State.worstRms (s : State) : Nat :=
  match s.worst with
  | some c => s.vm.channels[c].rmsLast
  | none => 0

/-- A motor's readings as Reports, snapshots and records carry them (R48, R120, R133). -/
def State.reading (s : State) (m : Motor) : MotorReading :=
  let r := s.reg m
  { iqLimited := (s.ld m).iq, idMeas := r.idMeas, iqMeas := r.iqMeas, udc := r.udcLast, temp := r.tempLast }

/-- A calibration of either motor is in flight. -/
def State.calibrating (s : State) : Bool := s.regA.calibration.isSome || s.regB.calibration.isSome

/-- The drive is in RUN or HOLD. -/
def State.running (s : State) : Bool := s.tu.drive == .run || s.tu.drive == .hold

end Sys2Proof.Machine
end

