-- ==== Sys2Proof/Machine/Flags.lean ====
section
/-! DEFINITION. Causes and the effective action: the numbers of R93, fixed minimum and acting actions (R94), event and level
causes, membership of the cause sets, and E (R98). -/

namespace Sys2Proof.Machine

/-! ## The causes by name (R93) -/

def Cause.tin (x : Fin 4) : Cause := ⟨x.val, by omega⟩

def Cause.overcurrent : Motor → Cause
  | .A => 4
  | .B => 5

def Cause.module : Motor → Cause
  | .A => 6
  | .B => 7

def Cause.undervolt : Motor → Cause
  | .A => 8
  | .B => 9

def Cause.overvolt : Motor → Cause
  | .A => 10
  | .B => 11

def Cause.heatsink : Motor → Cause
  | .A => 12
  | .B => 13

def Cause.vibAlert : Cause := 14
def Cause.vibAlarm : Cause := 15
def Cause.vibTrip : Cause := 16
def Cause.sensorRef : Cause := 17
def Cause.sensorWire : Cause := 18
def Cause.sensorFlat : Cause := 19
def Cause.overload : Cause := 20
def Cause.stall : Cause := 21
def Cause.imbalance : Cause := 22
def Cause.markerLost : Cause := 23
def Cause.demandLost : Cause := 24
def Cause.requestedTrip : Cause := 28
def Cause.restart : Cause := 29
def Cause.logFault : Cause := 30

/-- The cause of a link; the C-link has none (R156). -/
def Cause.linkLost : LinkId → Option Cause
  | .C => none
  | .A => some 25
  | .B => some 26
  | .S => some 27

/-! ## Cause sets -/

def CauseSet.has (x : CauseSet) (c : Cause) : Bool := x.getLsbD c.val

def CauseSet.insert (x : CauseSet) (c : Cause) : CauseSet := x ||| (1#31 <<< c.val)

def CauseSet.erase (x : CauseSet) (c : Cause) : CauseSet := x &&& ~~~(1#31 <<< c.val)

/-! ## Actions -/

/-- The higher of two actions. -/
def Action.higher (a b : Action) : Action := if a.code < b.code then b else a

/-- The fixed minimum actions of R93; a cause given as "—" has Ignore. -/
def fixedMinimum (c : Cause) : Action :=
  if c.val = 0 then .trip
  else if 4 ≤ c.val ∧ c.val ≤ 7 then .trip
  else if c.val = 10 ∨ c.val = 11 then .trip
  else if c.val = 24 then .hold
  else if c.val = 25 ∨ c.val = 26 ∨ c.val = 28 ∨ c.val = 29 then .trip
  else .ignore

/-- A cause's entry in the active ACTION bank, read at the moment of use (R94). -/
def State.actionEntry (s : State) (c : Cause) : ActionEntry := s.act.action[c]

/-- The acting action: the higher of the entry's action and the fixed minimum (R94). -/
def State.acting (s : State) (c : Cause) : Action := (s.actionEntry c).action.higher (fixedMinimum c)

/-- An edge sense makes its trip input an event cause (R113). -/
def Sense.isEdge : Sense → Bool
  | .levelLow | .levelHigh => false
  | .falling | .rising | .bothEdges => true

/-- Whether a cause is an event cause (R93): SENSOR_WIRE, REQUESTED_TRIP, RESTART and a trip input of an edge sense. -/
def State.isEvent (s : State) (c : Cause) : Bool :=
  if h : c.val < 4 then s.act.line.tin[c.val].sense.isEdge
  else c.val = 18 || c.val = 28 || c.val = 29

/-- Membership of the union of the active and the latched set. -/
def State.present (s : State) (c : Cause) : Bool := s.tu.active.has c || s.tu.latched.has c

/-- Some present cause has this acting action. -/
def State.anyActing (s : State) (a : Action) : Bool :=
  (List.finRange 31).any fun c => s.present c && s.acting c == a

/-- E: the highest acting action over the union of the two sets, Ignore when both are empty (R98). -/
def State.effective (s : State) : Action :=
  if s.anyActing .trip then .trip
  else if s.anyActing .hold then .hold
  else if s.anyActing .derate then .derate
  else if s.anyActing .notice then .notice
  else .ignore

/-- E as recomputed (R98). -/
def State.recomputeE (s : State) : State := s.setTu { s.tu with e := s.effective }

/-- A CAUSE_RAISED or CAUSE_CLEARED notice, in the queue of the cause's priority field (R96, R97). -/
def State.notifyCause (s : State) (k : NoticeKind) (c : Cause) : State :=
  s.notify k (natWord c.val) 0 (s.actionEntry c).priority

end Sys2Proof.Machine
end

