-- ==== Sys2Proof/Machine/TripUnit.lean ====
section
/-! DEFINITION. The drive state: its transitions with their entry effects (R100 to R107), the judging of E (R101) and the clear of
a cause (R97). -/

namespace Sys2Proof.Machine

/-- A transition of the drive state: its DRIVE_STATE notice comes first (R107). -/
def State.moveTo (s : State) (d : DriveState) : State :=
  let s := s.notify .driveState (natWord d.code) 0 .high
  s.setTu { s.tu with drive := d }

/-- Both regulators' integrators cleared (R17). -/
def State.clearIntegrators (s : State) : State :=
  let s := s.setRegA { s.regA with intD := 0, intQ := 0 }
  s.setRegB { s.regB with intD := 0, intQ := 0 }

/-- The imbalance counters at 0 (R44). -/
def State.clearRuns (s : State) : State := s.setTl { s.tl with upRun := 0, downRun := 0 }

/-- A clear by R97 up to the recomputing of E: the cause leaves the active set, its notice is queued when it acts at Notice or
above, E is recomputed. A cause that is not active changes nothing. -/
def State.dropCause (s : State) (c : Cause) : State :=
  if s.tu.active.has c then
    let s := s.setTu { s.tu with active := s.tu.active.erase c }
    let s := if s.acting c = .ignore then s else s.notifyCause .causeCleared c
    s.recomputeE
  else s

/-- Entry to TRIPPED (R104). The clears of its entry effects cannot take the drive out of TRIPPED, so E is recomputed and not
judged. DEDUCED (log entry 41): IMBALANCE, STALL and MARKER_LOST are cleared in the order in which R104 names them. -/
def State.enterTripped (s : State) : State :=
  let wasRunning := s.running
  let s := s.moveTo .tripped
  let s := s.setTu { s.tu with tout := true }
  let s := s.clearIntegrators
  if wasRunning then
    (((s.clearRuns).dropCause .imbalance).dropCause .stall).dropCause .markerLost
  else s

/-- The drive state judged against E (R101). -/
def State.judge (s : State) : State :=
  match s.tu.drive, s.tu.e with
  | .stopped, .trip => s.enterTripped
  | .run, .trip => s.enterTripped
  | .run, .hold => s.moveTo .hold
  | .hold, .trip => s.enterTripped
  | .hold, .hold => s
  | .hold, _ => s.moveTo .run
  | _, _ => s

/-- E recomputed and the drive state judged against it (R98, R101). -/
def State.reconsider (s : State) : State := s.recomputeE.judge

/-- A clear of a level cause (R97). -/
def State.clearCause (s : State) (c : Cause) : State :=
  if s.tu.active.has c then (s.dropCause c).judge else s

/-- Entry to STOPPED (R105), the run-only causes cleared in the order of the text (DEDUCED, log entry 41). -/
def State.enterStopped (s : State) : State :=
  let fromTripped := s.tu.drive == .tripped
  let wasRunning := s.running
  let s := s.moveTo .stopped
  let s := s.clearIntegrators
  let s := if fromTripped then s.setTu { s.tu with tout := false } else s
  if wasRunning then
    (((s.clearRuns).clearCause .imbalance).clearCause .stall).clearCause .markerLost
  else s

/-- Entry to RUN from STOPPED (R106): H to 32767 (R38), the integrators to 0 (R17), the silence time to 0 (R54). -/
def State.enterRun (s : State) : State :=
  let s := s.moveTo .run
  let s := s.setTl { s.tl with h := 32767 }
  let s := s.clearIntegrators
  s.setMt { s.mt with silence := 0 }

end Sys2Proof.Machine
end

