-- ==== Sys2Proof/Machine/CaptureBuffer.lean ====
section
/-! DEFINITION. The capture buffer: snapshots (R119, R120), triggers (R121 to R123), the freeze and its summary (R125, R126). -/

namespace Sys2Proof.Machine

/-- What a trigger answers (R121). -/
inductive TriggerOutcome where
  | started
  | startedAndFrozen (summary : Summary)
  | appended
  | notTaken
  deriving DecidableEq, Repr

/-- The outcome's code in a CAPTURE NOW reply (R166). -/
def TriggerOutcome.code : TriggerOutcome → Nat
  | .started => 0
  | .startedAndFrozen _ => 1
  | .appended => 2
  | .notTaken => 3

/-- What a slot reads before anything has been written into it: "contents not defined", so free values (log entry 5). -/
def undefinedSnapshot (n : Nat) : Snapshot :=
  let f := Config.undefinedSnapshotField n
  let reading : Nat → MotorReading := fun k =>
    { iqLimited := signed (natWord (f k)), idMeas := signed (natWord (f (k + 1))),
      iqMeas := signed (natWord (f (k + 2))), udc := (natWord (f (k + 3))).toNat,
      temp := signed (natWord (f (k + 4))) }
  { period := natWord (f 0), seq := BitVec.ofNat 8 (f 1), drive := .stopped, e := .ignore, h := f 2, a := reading 3,
    b := reading 8, v := Fin.ofNat 4 (f 13), worst := none, worstRms := f 14 }

/-- The snapshot in a slot. -/
def CaptureBuffer.snapshotAt (cb : CaptureBuffer) (n : Nat) : Snapshot := (slotAt n cb.slots).getD (undefinedSnapshot n)

/-- The slot of the n-th valid snapshot, counting the oldest as 0 (R119, R130). -/
def CaptureBuffer.validSlot (cb : CaptureBuffer) (n : Nat) : Nat := (cb.writeIndex.val + 256 - cb.valid + n) % 256

/-- The valid snapshots, oldest first. -/
def CaptureBuffer.validSnapshots (cb : CaptureBuffer) : List Snapshot :=
  (List.range cb.valid).map fun n => cb.snapshotAt (cb.validSlot n)

/-- The summary over the valid snapshots (R126). -/
def CaptureBuffer.summary (cb : CaptureBuffer) : Summary :=
  let snaps := cb.validSnapshots
  { maxIqA := snaps.foldl (fun m x => max m x.a.iqMeas.natAbs) 0
    maxIqB := snaps.foldl (fun m x => max m x.b.iqMeas.natAbs) 0
    minUdcA := snaps.foldl (fun m x => min m x.a.udc) 65535
    minUdcB := snaps.foldl (fun m x => min m x.b.udc) 65535
    maxV := snaps.foldl (fun m x => max m x.v) 0
    valid := cb.valid
    short := cb.short }

/-- A freeze, up to its announcement (R125): FROZEN, the cadence timer stopped, the CAPTURE_FROZEN notice. -/
def State.freeze (s : State) (short : Bool) : State :=
  let s := s.setCb { s.cb with state := .frozen, cadence := none, short := short }
  s.notify .captureFrozen (natWord ((s.cb.causes.head?.map CaptureEntry.code).getD 0)) 0 .low

/-- A trigger (R122, R123). With N_post 0 the capture freezes in the same event and the outcome carries the summary. -/
def State.trigger (s : State) (x : CaptureEntry) : State × TriggerOutcome :=
  match s.cb.state with
  | .armed =>
    let nPost := s.act.line.nPost
    let s := s.setCb { s.cb with
      state := .triggered, causes := [x], short := false, remaining := nPost, cadence := some 0 }
    if nPost = 0 then
      let s := s.freeze false
      (s, .startedAndFrozen s.cb.summary)
    else (s, .started)
  | .triggered =>
    if s.cb.causes.length < 4 then (s.setCb { s.cb with causes := s.cb.causes ++ [x] }, .appended) else (s, .notTaken)
  | .disarmed | .frozen => (s, .notTaken)

/-- The snapshot of the moment (R120). -/
def State.snapshot (s : State) : Snapshot :=
  { period := s.cb.periods, seq := s.tl.lastSeq, drive := s.tu.drive, e := s.tu.e, h := s.tl.h, a := s.reading .A,
    b := s.reading .B, v := s.vm.v, worst := s.worst, worstRms := s.worstRms }

/-- The period reference at CB when its event opens: the period count steps (R119), and in TRIGGERED the cadence timer restarts
(R124). -/
def State.countPeriod (s : State) : State :=
  s.setCb { s.cb with
    periods := s.cb.periods + 1
    cadence := if s.cb.state = .triggered then some 0 else s.cb.cadence }

/-- One snapshot into the ring (R119). -/
def State.writeSnapshot (s : State) : State :=
  s.setCb { s.cb with
    slots := slotPut s.cb.writeIndex.val s.snapshot s.cb.slots
    writeIndex := s.cb.writeIndex + 1
    valid := min (s.cb.valid + 1) 256 }

end Sys2Proof.Machine
end

