-- ==== Sys2Proof/Machine/RecordStore.lean ====
section
/-! DEFINITION. The record store up to the array: gathering (R133 to R137), the pending queue (R138), the start of writing (R139)
and what the array's slots read (R132). -/

namespace Sys2Proof.Machine

/-! ## The array (R132) -/

/-- Whether a slot reads Blank. -/
def RecordStore.blank (rs : RecordStore) (n : Nat) : Bool := (slotAt n rs.array).isNone

/-- The sector a slot lies in. -/
def sectorOf (slot : Fin 64) : Fin 4 := ⟨slot.val / 16, by omega⟩

/-- Whether a slot begins a sector. -/
def beginsSector (slot : Fin 64) : Bool := slot.val % 16 == 0

/-- The slots of a sector. -/
def sectorSlots (sector : Fin 4) : List Nat := (List.range 16).map fun i => sector.val * 16 + i

/-- The start of an erase: from that moment no slot of the sector reads Valid, nor Blank before its end (R132). -/
def startErase (sector : Fin 4) (array : Slots ArraySlot) : Slots ArraySlot :=
  (sectorSlots sector).foldl (fun a n => slotPut n .invalid a) array

/-- The end of an erase: every slot of the sector reads Blank but those the verify finds otherwise, which read Invalid. -/
def endErase (sector : Fin 4) (notBlank : Word) (array : Slots ArraySlot) : Slots ArraySlot :=
  (List.range 16).foldl
    (fun a i =>
      let n := sector.val * 16 + i
      if notBlank.getLsbD i then slotPut n .invalid a else slotClear n a)
    array

/-- An erase cut short: the sector reads a mix of Invalid and Blank (R149); which slots read Blank is a free value. -/
def cutErase (sector : Fin 4) (draw : Nat) (array : Slots ArraySlot) : Slots ArraySlot :=
  (sectorSlots sector).foldl
    (fun a n => if Config.cutEraseReadsBlank draw n then slotClear n a else slotPut n .invalid a)
    array

/-- The Valid records of the array with their slots, by rising slot number. -/
def validRecords : Slots ArraySlot → List (Nat × Nat × Record)
  | [] => []
  | (n, .valid q r) :: rest => (n, q, r) :: validRecords rest
  | (_, .invalid) :: rest => validRecords rest

/-! ## Writing (R139) -/

/-- The judgement of the write slot for the record at the head of the queue: erase a sector about to be reused, skip a slot that
is not Blank, else program (R139). A run of skips ends within 16 slots, so 17 rounds suffice. -/
def RecordStore.judgeSlot (rs : RecordStore) : Nat → RecordStore
  | 0 => rs
  | fuel + 1 =>
    if beginsSector rs.writeSlot then
      { rs with state := .erasing, array := startErase (sectorOf rs.writeSlot) rs.array }
    else if rs.blank rs.writeSlot.val then
      -- from the start of programming the slot is no longer Blank, and it is not Valid before its verify
      { rs with state := .programming, array := slotPut rs.writeSlot.val .invalid rs.array }
    else RecordStore.judgeSlot { rs with writeSlot := rs.writeSlot + 1 } fuel

/-- Begin writing the record at the head of the queue. -/
def RecordStore.beginWrite (rs : RecordStore) : RecordStore := rs.judgeSlot 17

/-- When the store is IDLE and the pending queue is not empty, writing begins within the event that makes this so (R139). -/
def RecordStore.writeIfIdle (rs : RecordStore) : RecordStore :=
  if rs.state = .idle ∧ rs.queue ≠ [] then rs.beginWrite else rs

/-! ## The pending queue (R138) -/

/-- A 16-bit millisecond offset, saturated at 65535. -/
def offset16 (n : Nat) : Nat := min n 65535

/-- Append causes to a record while its list has fewer than 8 entries; the rest raise its further count, which saturates at 255. -/
def Record.append (r : Record) : List (Cause × Nat) → Record
  | [] => r
  | x :: rest =>
    if r.causes.length < 8 then Record.append { r with causes := r.causes ++ [x] } rest
    else Record.append { r with further := min (r.further + 1) 255 } rest

/-- A closing record merged into the newest queued one (R138). -/
def Record.merge (newest closing : Record) : Record :=
  let base := closing.openedAt - newest.openedAt
  let causes := ((closing.first, 0) :: closing.causes).map fun x => (x.1, offset16 (base + x.2))
  let r := newest.append causes
  { r with further := min (r.further + closing.further) 255, merged := true }

/-- The last record of a queue merged with a closing one. -/
def mergeTail (closing : Record) : List Record → List Record
  | [] => []
  | [r] => [r.merge closing]
  | r :: x :: rest => r :: mergeTail closing (x :: rest)

/-- A closed record joins the queue at its tail, or is merged into the tail of a queue of four (R138). -/
def enqueueRecord (q : List Record) (r : Record) : List Record :=
  if q.length < 4 then q ++ [r] else mergeTail r q

/-- The gathering record closes, with or without a summary; an idle store begins to write (R137, R138, R139). -/
def RecordStore.close (rs : RecordStore) (summary : Option Summary) : RecordStore :=
  match rs.gathering with
  | none => rs
  | some g =>
    let r := { g.record with summary := summary }
    RecordStore.writeIfIdle { rs with gathering := none, queue := enqueueRecord rs.queue r }

/-- The announcement of a freeze or of an abandonment closes a record bound to the capture; without one nothing follows (R125,
R129, R137). -/
def RecordStore.captureEnded (rs : RecordStore) (summary : Option Summary) : RecordStore :=
  match rs.gathering with
  | some g => if g.bound then rs.close summary else rs
  | none => rs

/-! ## Gathering (R133 to R135) -/

/-- The record a logged raise opens, with the contents of the moment (R133). -/
def State.openRecord (s : State) (c : Cause) : Record :=
  { openedAt := s.rs.clock, seconds := s.me.seconds, timeSet := s.me.timeSet, first := c, drive := s.tu.drive, e := s.tu.e,
    marker := s.mt.state, lastPeriod := s.mt.lastPeriod, band := s.torqueBand, a := s.reading .A, b := s.reading .B,
    v := s.vm.v, worst := s.worst, worstRms := s.worstRms,
    restart := if c = Cause.restart then some s.tu.restart else none,
    causes := [], further := 0, merged := false, summary := none }

/-- The gathering record after a logged raise: opened by it, or with the cause appended at the record's age (R133, R134). -/
def State.gather (s : State) (c : Cause) : Gathering :=
  match s.rs.gathering with
  | none => { record := s.openRecord c, timer := some 0, bound := false }
  | some g => { g with record := g.record.append [(c, offset16 (s.rs.clock - g.record.openedAt))] }

/-- A logged raise with the outcome of its trigger, or with none (R133 to R135): started and started-and-frozen bind the record and
stop its timer; the latter closes it at once with the summary. -/
def State.logRaise (s : State) (c : Cause) (o : Option TriggerOutcome) : State :=
  let g := s.gather c
  match o with
  | some .started => s.setRs { s.rs with gathering := some { g with bound := true, timer := none } }
  | some (.startedAndFrozen summary) =>
    s.setRs (RecordStore.close { s.rs with gathering := some { g with bound := true, timer := none } } (some summary))
  | some .appended | some .notTaken | none => s.setRs { s.rs with gathering := some g }

end Sys2Proof.Machine
end

