-- ==== Sys2Proof/Machine/Causes.lean ====
section
/-! DEFINITION. The raise of a cause and all that follows from it in one event (R95, R96). -/

namespace Sys2Proof.Machine

/-- The consequences of a raise (R96): notice, E and the drive state, capture trigger, log entry. A cause acting at Ignore only has
E recomputed. -/
def State.consequences (s : State) (c : Cause) : State :=
  if s.acting c = .ignore then s.reconsider
  else
    let s := (s.notifyCause .causeRaised c).reconsider
    let entry := s.actionEntry c
    let p : State × Option TriggerOutcome :=
      if entry.capture then ((s.trigger (.cause c)).1, some (s.trigger (.cause c)).2) else (s, none)
    if entry.log then p.1.logRaise c p.2 else p.1

/-- A raise (R95): an event cause enters the latched set at each raise; a level cause enters the active set, and the latched set
where its latch field is on, unless it is active already. -/
def State.raise (s : State) (c : Cause) : State :=
  if s.isEvent c then
    (s.setTu { s.tu with latched := s.tu.latched.insert c }).consequences c
  else if s.tu.active.has c then s
  else
    (s.setTu { s.tu with
      active := s.tu.active.insert c
      latched := if (s.actionEntry c).latch then s.tu.latched.insert c else s.tu.latched }).consequences c

/-- Raise a level cause where its condition holds, clear it where the condition is over, and leave it between the two (R93). -/
def State.follow (s : State) (c : Cause) (raised cleared : Bool) : State :=
  if raised then s.raise c else if cleared then s.clearCause c else s

/-- The store enters FAULT and raises LOG_FAULT (R143). -/
def State.storeFault (s : State) : State := (s.setRs { s.rs with state := .fault }).raise .logFault

/-- A freeze made outside a raise: it is announced to the record store directly (R125). -/
def State.freezeAndAnnounce (s : State) (short : Bool) : State :=
  let s := s.freeze short
  s.setRs (s.rs.captureEnded (some s.cb.summary))

/-- The snapshot at the close of a period reference's event (R119): written in ARMED and TRIGGERED; in TRIGGERED it counts down to
the freeze (R123). -/
def State.closePeriod (s : State) : State :=
  match s.cb.state with
  | .armed => s.writeSnapshot
  | .triggered =>
    let s := s.writeSnapshot
    let s := s.setCb { s.cb with remaining := s.cb.remaining - 1 }
    if s.cb.remaining = 0 then s.freezeAndAnnounce false else s
  | .disarmed | .frozen => s

end Sys2Proof.Machine
end

