-- ==== Sys2Proof/Machine/Marker.lean ====
section
/-! DEFINITION. The marker timer: edges, the millisecond step, expiry, MARKER_LOST and the effects of a LINE-table switch (R50 to
R58), with the meanings of its commands. -/

namespace Sys2Proof.Machine

/-- MARKER_LOST holds while the marker is Lost, the drive is RUN or HOLD and the silence time is at or above max_period (R55). -/
def State.markerLostHolds (s : State) : Bool :=
  s.mt.state == .lost && s.running && decide (s.act.line.marker.maxPeriod ≤ s.mt.silence)

/-- MARKER_LOST raised where its condition has become true (R55). -/
def State.raiseMarkerLost (s : State) : State := if s.markerLostHolds then s.raise .markerLost else s

/-- An expiry: Lost, the counter at 0, the silence time and the last period kept (R53). -/
def State.expireMarker (s : State) : State := s.setMt { s.mt with state := .lost, counter := 0 }

/-- One millisecond step of the marker timer (R51): the counter and the silence time step, the silence time saturates at
max_period, a counter that reaches max_period expires (R53), and MARKER_LOST is judged (R55). -/
def State.markerStep (s : State) : State :=
  let maxPeriod := s.act.line.marker.maxPeriod
  let s := s.setMt { s.mt with counter := s.mt.counter + 1, silence := min (s.mt.silence + 1) maxPeriod }
  let s := if maxPeriod ≤ s.mt.counter then s.expireMarker else s
  s.raiseMarkerLost

/-- The next step of the counter reaches max_period. -/
def State.expiryDue (s : State) : Bool := decide (s.act.line.marker.maxPeriod ≤ s.mt.counter + 1)

/-- An accepted edge (R52): the marker state moves on, a whole interval gives the last period, the counter and the silence time
clear, and STALL and MARKER_LOST are cleared, in the order of the text (DEDUCED, log entry 41). -/
def State.acceptEdge (s : State) : State :=
  let mt := s.mt
  let s := s.setMt
    { state := if mt.state = .lost then .acquiring else .tracking
      counter := 0
      lastPeriod := if mt.state = .lost then mt.lastPeriod else mt.counter
      silence := 0 }
  (s.clearCause .stall).clearCause .markerLost

/-- The level MK has after an edge. -/
def levelAfter : Edge → Level
  | .rising => .high
  | .falling => .low

/-- ACTIVE_EDGE (R50, R52): an edge is a change of the level MK holds, so where MK holds the level already nothing happens (log entry
27). An edge of the kind the LINE bank names is a glitch below min_period, else accepted; an edge of the other kind changes the level
alone. While a reset is held MK edges do not reach MT: the level alone follows, and it is the one held at the release. -/
def execActiveEdge (e : Edge) (s : State) : Host.Outcome State Fault Refusal :=
  .next <|
    if s.pins.marker = levelAfter e then s
    else
      let s := s.setPins { s.pins with marker := levelAfter e }
      if s.inReset then s
      else if e = s.act.line.marker.edge then
        if s.mt.counter < s.act.line.marker.minPeriod then s else s.acceptEdge
      else s

/-- MARKER_TIMER_STEP (R51): one step of the marker timer's own time base, with the expiry where the step brings one. -/
def execMarkerTimerStep (s : State) : Host.Outcome State Fault Refusal :=
  .next (if s.inReset then s else s.markerStep)

/-- MARKER_EXPIRY (R53): the step of R51 that brings the counter to max_period. It does not occur while the counter is further from
it (log entry 3). -/
def execMarkerExpiry (s : State) : Host.Outcome State Fault Refusal :=
  .next (if !s.inReset && s.expiryDue then s.markerStep else s)

/-- SILENCE_TIME_REACHED (R55): the step of R51, in Lost with the drive in RUN or HOLD and no expiry, that brings the silence time to
max_period. It does not occur otherwise (log entry 3). -/
def execSilenceTimeReached (s : State) : Host.Outcome State Fault Refusal :=
  .next
    (if !s.inReset && !s.expiryDue && s.mt.state == .lost && s.running
        && decide (s.mt.silence + 1 = s.act.line.marker.maxPeriod) then
      s.markerStep
    else s)

/-- The effects of a LINE-table switch on the marker timer (R58); `old` is the marker entry of the bank that was active. -/
def State.markerSettings (s : State) (old : MarkerEntry) : State :=
  let new := s.act.line.marker
  if new = old then s
  else
    let edgeChanged := decide (new.edge ≠ old.edge)
    let s :=
      if edgeChanged then (s.setMt { s.mt with state := .acquiring, counter := 0 }).clearCause .markerLost else s
    let s := s.setMt { s.mt with silence := min s.mt.silence new.maxPeriod }
    let s := if !edgeChanged && decide (new.maxPeriod ≤ s.mt.counter) then s.expireMarker else s
    s.follow .markerLost s.markerLostHolds (!s.markerLostHolds)

end Sys2Proof.Machine
end

