-- ==== Sys2Proof/Machine/Vibration.lean ====
section
/-! DEFINITION. The vibration monitor (chapter 04) and the sensor check unit (chapter 05): filtering, windows, grading, the overall
state with its causes, the three checks, and the effects of a VIBRATION-table switch. -/

namespace Sys2Proof.Machine

/-! ## One channel -/

/-- The filtered value (R65): the channel value less the running mean as it stood, saturated. -/
def Channel.filtered (c : Channel) (x : Int) : Int := sat (x - c.mean / 65536)

/-- One Sweep into a channel in service (R65, R66): mean, sum of squares, peak, and the held mark set where `hold`. -/
def Channel.accumulate (c : Channel) (x : Int) (k : Nat) (hold : Bool) : Channel :=
  let y := c.filtered x
  { c with
    mean := c.mean + (x * 65536 - c.mean) / (2 ^ k : Nat)
    sum := c.sum + y.natAbs * y.natAbs
    peak := max c.peak y.natAbs
    held := c.held || hold }

/-- The window restarted for a channel (R67, R76, R77). -/
def Channel.restartWindow (c : Channel) : Channel := { c with sum := 0, peak := 0, held := false }

/-- The readings of a closing window stored (R67). -/
def Channel.closeReadings (c : Channel) (w : Nat) : Channel :=
  { c with rmsLast := isqrt (c.sum / 2 ^ w), peakLast := c.peak }

/-- The highest threshold a value is at or above, less `hyst`; 0 if none (R68). -/
def gradeOf (rms hyst alert alarm trip : Nat) : Grade :=
  if (trip : Int) - hyst ≤ rms then 3
  else if (alarm : Int) - hyst ≤ rms then 2
  else if (alert : Int) - hyst ≤ rms then 1
  else 0

/-- The up-run at a graded close (R69). -/
def Channel.upRun (c : Channel) (g : Grade) (pUp : Nat) : Channel :=
  let c :=
    if c.level < g then
      if c.upCount = 0 then { c with upCount := 1, upLowest := g }
      else { c with upCount := c.upCount + 1, upLowest := min c.upLowest g }
    else { c with upCount := 0 }
  if pUp ≤ c.upCount then { c with grade := some c.upLowest, upCount := 0 } else c

/-- The down-run at a graded close (R70), judged against the state `s` the close found. -/
def Channel.downRun (c : Channel) (s r : Grade) (pDown : Nat) : Channel :=
  let c := if r < s then { c with downCount := c.downCount + 1 } else { c with downCount := 0 }
  if pDown ≤ c.downCount then { c with grade := some (c.level - 1), downCount := 0 } else c

/-- A graded close (R68 to R70). -/
def Channel.graded (c : Channel) (g r : Grade) (pUp pDown : Nat) : Channel :=
  (c.upRun g pUp).downRun c.level r pDown

/-- A close at which the channel is not evaluating (R71). -/
def Channel.ungraded (c : Channel) : Channel := { c with upCount := 0, downCount := 0 }

/-- A channel that has left service (R63, R77): Off, everything 0 but its mean. -/
def Channel.leave (c : Channel) : Channel := { Sys2Proof.Machine.channelReset with mean := c.mean }

/-- A channel that enters service (R77): Normal, held for the rest of a window that had begun before it. -/
def Channel.enter (c : Channel) (held : Bool) : Channel := { c.leave with grade := some 0, held := held }

/-! ## All channels -/

/-- Every channel changed by its number. -/
def State.mapChannels (s : State) (f : Fin 8 → Channel → Channel) : State :=
  s.setVm { s.vm with channels := Vector.ofFn fun c : Fin 8 => f c s.vm.channels[c] }

/-- Every channel in service changed by its number. -/
def State.mapInService (s : State) (f : Fin 8 → Channel → Channel) : State :=
  s.mapChannels fun c x => if s.inService c then f c x else x

/-- The window restarted for every channel in service, and the window counter (R67, R76). -/
def State.restartWindow (s : State) : State :=
  let s := s.mapInService fun _ x => x.restartWindow
  s.setVm { s.vm with window := 0 }

/-- A wire check of the channel is in flight (R85). -/
def SensorCheck.testing (u : SensorCheck) (c : Fin 8) : Bool :=
  match u.wire with
  | some w => w.channel == c
  | none => false

/-! ## The overall state (R72 to R74) -/

/-- The highest state over the channels in service; 0 when there is none (R72). -/
def State.highestGrade (s : State) : Grade :=
  (List.finRange 8).foldl (fun v c => if s.inService c then max v s.vm.channels[c].level else v) 0

/-- The vibration cause whose condition is V at or above a level 1 to 3 (R74). -/
def vibrationCause (level : Nat) : Cause :=
  if level = 1 then .vibAlert else if level = 2 then .vibAlarm else .vibTrip

/-- V formed afresh, with the vibration causes in step (R74): raised in rising order where V rose past them, cleared in falling
order where it fell. -/
def State.formV (s : State) : State :=
  let old := s.vm.v.val
  let new := s.highestGrade
  let s := s.setVm { s.vm with v := new }
  let s := [1, 2, 3].foldl
    (fun s k => if old < k ∧ k ≤ new.val then s.raise (vibrationCause k) else s) s
  [3, 2, 1].foldl (fun s k => if new.val < k ∧ k ≤ old then s.clearCause (vibrationCause k) else s) s

/-! ## The wire check (R85 to R90) -/

/-- The test bit of a channel. -/
def testBit (c : Fin 8) : Byte := 1#8 <<< c.val

/-- A wire check's end announced: channel and result code, 0 PASS, 1 FAIL, 2 ABORTED. -/
def State.notifyWireDone (s : State) (c : Fin 8) (result : Nat) : State :=
  s.notify .wireDone (natWord c.val) (natWord result) .low

/-- A wire check in flight aborted: sums discarded, flag unchanged, test bit cleared, WIRE_DONE ABORTED (R90). -/
def State.abortWireCheck (s : State) : State :=
  match s.scu.wire with
  | none => s
  | some w => (s.setScu { s.scu with wire := none, testBits := 0 }).notifyWireDone w.channel 2

/-- The channel's wire-fault flag. -/
def SensorCheck.setWireFault (u : SensorCheck) (c : Fin 8) (b : Bool) : SensorCheck :=
  { u with checks := u.checks.set c { u.checks[c] with wireFault := b } }

/-- The check completes (R88): it passes when the mean moved by at least min_shift; a failure raises SENSOR_WIRE.
The raise comes before the WIRE_DONE notice, as the text has them (DEDUCED, log entry 41). -/
def State.completeWireCheck (s : State) (w : WireCheck) : State :=
  let passed := decide (w.minShift * w.nW ≤ (w.sInject - w.sBase).natAbs)
  let s := s.setScu { s.scu.setWireFault w.channel (!passed) with wire := none, testBits := 0 }
  let s := if passed then s else s.raise .sensorWire
  s.notifyWireDone w.channel (if passed then 0 else 1)

/-- One taken Sweep at the wire check in flight (R86, R87): counted in Baseline where the echo for its channel is clear, in Inject
where it is set. -/
def State.countWireCheck (s : State) (x : Fin 8 → Int) (echo : Byte) : State :=
  match s.scu.wire with
  | none => s
  | some w =>
    let bit := echo.getLsbD w.channel.val
    if !w.inject && !bit then
      let w := { w with sBase := w.sBase + x w.channel, count := w.count + 1 }
      if w.nW ≤ w.count then
        s.setScu { s.scu with wire := some { w with inject := true, count := 0 }, testBits := testBit w.channel }
      else s.setScu { s.scu with wire := some w }
    else if w.inject && bit then
      let w := { w with sInject := w.sInject + x w.channel, count := w.count + 1 }
      if w.nW ≤ w.count then s.completeWireCheck w else s.setScu { s.scu with wire := some w }
    else s

/-! ## The reference check (R81, R82) -/

/-- Stage 1 of a taken Sweep (R81): the runs of the reference, ref-fail and SENSOR_REF; setting ref-fail aborts a wire check
(R82). -/
def State.checkReference (s : State) (value : Int) : State :=
  let t := s.act.vibration.scalars
  let inside := decide (t.refLo ≤ value ∧ value ≤ t.refHi)
  let u := s.scu
  if !u.refFail then
    if inside then s.setScu { u with outRun := 0 }
    else if 4 ≤ u.outRun + 1 then
      ((s.setScu { u with refFail := true, outRun := 0 }).raise .sensorRef).abortWireCheck
    else s.setScu { u with outRun := u.outRun + 1 }
  else
    if inside then
      if 4 ≤ u.inRun + 1 then (s.setScu { u with refFail := false, inRun := 0 }).clearCause .sensorRef
      else s.setScu { u with inRun := u.inRun + 1 }
    else s.setScu { u with inRun := 0 }

/-! ## The flat-channel check (R83, R84) -/

/-- One channel's flat judgement at a window close (R83): a flat run that has set the flag and stands at or above flat_count stays at its
count (log entry 13). -/
def ChannelCheck.judgeFlat (k : ChannelCheck) (judged : Bool) (ms flatFloor flatCount : Nat) : ChannelCheck :=
  if judged then
    if ms < flatFloor then
      if k.flat && decide (flatCount ≤ k.flatRun) then k
      else { k with flatRun := k.flatRun + 1, flat := k.flat || decide (flatCount ≤ k.flatRun + 1) }
    else { k with flatRun := 0, flat := false }
  else { k with flatRun := 0 }

/-- At least one channel's flat flag is set. -/
def SensorCheck.anyFlat (u : SensorCheck) : Bool := (List.finRange 8).any fun c => u.checks[c].flat

/-- SENSOR_FLAT formed afresh (R84). -/
def State.formSensorFlat (s : State) : State := s.follow .sensorFlat s.scu.anyFlat (!s.scu.anyFlat)

/-- The flat check of every channel in service at a window close (R83). -/
def State.checkFlat (s : State) : State :=
  let t := s.act.vibration.scalars
  let turning := s.mt.state == .tracking && decide (1 ≤ s.vibrationBand)
  let checks := Vector.ofFn fun c : Fin 8 =>
    let k := s.scu.checks[c]
    let x := s.vm.channels[c]
    if s.inService c then k.judgeFlat (!x.held && turning) (x.sum / 2 ^ t.w) t.flatFloor t.flatCount else k
  (s.setScu { s.scu with checks := checks }).formSensorFlat

/-! ## The window close (R67 to R74) -/

/-- A channel in service is evaluating (R68). -/
def State.evaluating (s : State) (c : Fin 8) : Bool :=
  !s.vm.channels[c].held && !s.scu.testing c && !s.scu.checks[c].wireFault && !s.scu.checks[c].flat && !s.scu.refFail

/-- The grading of every channel in service, in the vibration band of the close (R68 to R71). -/
def State.gradeChannels (s : State) : State :=
  let t := s.act.vibration
  let vb : Fin 4 := Fin.ofNat 4 s.vibrationBand
  s.mapInService fun c x =>
    if s.evaluating c then
      let e := t.channels[c]
      x.graded (gradeOf x.rmsLast 0 e.alert[vb] e.alarm[vb] e.trip[vb])
        (gradeOf x.rmsLast t.scalars.hyst e.alert[vb] e.alarm[vb] e.trip[vb]) t.scalars.pUp t.scalars.pDown
    else x.ungraded

/-- The window closes (R67): readings, the flat check, grading, V and its causes, and the window restarts. -/
def State.closeWindow (s : State) : State :=
  let w := s.act.vibration.scalars.w
  let s := s.mapInService fun _ x => x.closeReadings w
  let s := s.checkFlat
  let s := s.gradeChannels
  let s := s.formV
  s.restartWindow

/-- A taken Sweep, stages 1 to 3 (R64): `x` gives the channel values, `reference` the reference value. -/
def State.takeSweep (s : State) (x : Fin 8 → Int) (reference : Int) (echo : Byte) : State :=
  let s := s.checkReference reference
  let k := s.act.vibration.scalars.k
  let hold : Fin 8 → Bool := fun c => s.scu.testing c || s.scu.checks[c].wireFault || s.scu.refFail
  let s := s.mapInService fun c y => y.accumulate (x c) k (hold c)
  let s := s.countWireCheck x echo
  let s := s.setVm { s.vm with window := s.vm.window + 1 }
  if 2 ^ s.act.vibration.scalars.w ≤ s.vm.window then s.closeWindow else s

/-! ## The S-link leaving LOCKED (R76, R82, R90) -/

/-- The window restarts, the reference runs are 0 and a wire check in flight is aborted. -/
def State.sensorLinkLeft (s : State) : State :=
  let s := s.restartWindow
  let s := s.setScu { s.scu with outRun := 0, inRun := 0 }
  s.abortWireCheck

/-! ## The effects of a VIBRATION-table switch (R77, R91) -/

/-- The monitor's effects (R77); `old` is the bank that was active. -/
def State.vibrationSettings (s : State) (old : VibrationTable) : State :=
  let new := s.act.vibration
  let restarted := decide (new.scalars.g ≠ old.scalars.g ∨ new.scalars.w ≠ old.scalars.w ∨ new.scalars.k ≠ old.scalars.k)
  let s :=
    if restarted then
      let s := s.mapChannels fun _ x => x.restartWindow
      s.setVm { s.vm with window := 0 }
    else s
  let s := s.mapChannels fun c x =>
    if old.inService c && !new.inService c then x.leave
    else if !old.inService c && new.inService c then x.enter (!restarted)
    else x
  s.formV

/-- The sensor check unit's effects (R91); `old` is the bank that was active. -/
def State.checkSettings (s : State) (old : VibrationTable) : State :=
  let new := s.act.vibration
  let s :=
    match s.scu.wire with
    | some w =>
      if decide (new.scalars.g ≠ old.scalars.g) || !new.inService w.channel then s.abortWireCheck else s
    | none => s
  let checks := Vector.ofFn fun c : Fin 8 =>
    let k := s.scu.checks[c]
    if old.inService c && !new.inService c then { k with flat := false, flatRun := 0 } else k
  (s.setScu { s.scu with checks := checks }).formSensorFlat

end Sys2Proof.Machine
end

