-- ==== Sys2Proof/Machine/Links.lean ====
section
/-! DEFINITION. The link units: the transitions of R154 with their timers (R155), causes (R156) and what leaving LOCKED hands on
(R157), the discarded frame (R153), and the meanings of the frame-discard and timeout commands. -/

namespace Sys2Proof.Machine

/-- A LINK_STATE notice: the link and its new state, in the low queue (R154). -/
def State.notifyLink (s : State) (l : LinkId) (new : LinkState) : State :=
  s.notify .linkState (natWord (linkCode l)) (natWord new.code) .low

/-- A CAL_DONE notice: the motor and the result code, 0 OK, 1 OUT_OF_RANGE, 2 ABORTED. -/
def State.notifyCalDone (s : State) (m : Motor) (result : Nat) : State :=
  s.notify .calDone (natWord (motorCode m)) (natWord result) .low

/-- A calibration in flight aborted: count and sums discarded, offsets and flag unchanged, CAL_DONE ABORTED (R25). -/
def State.abortCalibration (s : State) (m : Motor) : State :=
  match (s.reg m).calibration with
  | none => s
  | some _ => (s.setReg m { s.reg m with calibration := none }).notifyCalDone m 2

/-- What a link hands the blocks that rely on it when it leaves LOCKED (R157): a P-link its regulator, the S-link the vibration
monitor and the sensor check unit; the C-link discards a waiting Report (R164). -/
def State.linkLeftLocked (s : State) : LinkId → State
  | .A => s.abortCalibration .A
  | .B => s.abortCalibration .B
  | .S => s.sensorLinkLeft
  | .C => s.setUp { s.up with waiting := none }

/-- The cause of a link raised, where it has one (R156). -/
def State.raiseLinkLost (s : State) (l : LinkId) : State :=
  match Cause.linkLost l with
  | some c => s.raise c
  | none => s

/-- The cause of a link cleared, where it has one (R156). -/
def State.clearLinkLost (s : State) (l : LinkId) : State :=
  match Cause.linkLost l with
  | some c => s.clearCause c
  | none => s

/-- What a good frame does to the link it arrives on, after its handling (R154, R155): toward lock in SEARCHING and LOCKING, a
restart of the timer in LOCKED, nothing in LOST. -/
def State.goodFrame (s : State) (l : LinkId) : State :=
  let u := s.link l
  match u.state with
  | .searching => (s.setLink l { u with state := .locking, good := 1, timer := some 0 }).notifyLink l .locking
  | .locking =>
    let count := lockCount (s.act.linkEntry l).lockCode
    if u.good + 1 < count then s.setLink l { u with good := u.good + 1, timer := some 0 }
    else
      ((s.setLink l { u with state := .locked, good := count, timer := some 0 }).notifyLink l .locked).clearLinkLost l
  | .locked => s.setLink l { u with timer := some 0 }
  | .lost | .down => s

/-- A discarded frame (R153): the error count steps, saturating at 65535; in LOCKING the good count is 0 again. A link that is DOWN
does not watch its line (R151). -/
def State.discardFrame (s : State) (l : LinkId) : State :=
  let u := s.link l
  match u.state with
  | .down => s
  | .locking => s.setLink l { u with errors := min (u.errors + 1) 65535, good := 0 }
  | .searching | .locked | .lost => s.setLink l { u with errors := min (u.errors + 1) 65535 }

/-- The relock mode as it acts: the C-link's is on at all times (chapter 09). -/
def State.relockActs (s : State) (l : LinkId) : Bool := l == .C || (s.link l).relock

/-- The expiry of a link's timeout timer (R154, R155, R157). -/
def State.expireLink (s : State) (l : LinkId) : State :=
  let u := s.link l
  match u.state with
  | .locking => (s.setLink l { u with state := .searching, good := 0, timer := none }).notifyLink l .searching
  | .locked =>
    (((s.setLink l { u with state := .lost, good := 0, timer := some 0 }).notifyLink l .lost).raiseLinkLost l).linkLeftLocked l
  | .lost =>
    if s.relockActs l then
      (s.setLink l { u with state := .searching, good := 0, timer := none }).notifyLink l .searching
    else s.setLink l { u with good := 0, timer := some 0 }
  | .down | .searching => s

/-- The next step of a link's timeout timer brings it to the timeout of the LINE bank in force, or finds it there already (R155,
R162). -/
def State.linkDue (s : State) (l : LinkId) : Bool := timerDue (s.act.linkEntry l).timeout (s.link l).timer

/-- One 0.1 ms step of a link's timeout timer, with the expiry where the step brings one (R155). -/
def State.stepLink (s : State) (l : LinkId) : State :=
  if s.linkDue l then s.expireLink l else s.setLink l { s.link l with timer := timerNext (s.link l).timer }

/-- LINK CONTROL enable (R161): DOWN to SEARCHING. -/
def State.enableLink (s : State) (l : LinkId) : State :=
  let u := s.link l
  if u.state = .down then
    (s.setLink l { u with state := .searching, good := 0, timer := none }).notifyLink l .searching
  else s

/-- LINK CONTROL disable, once accepted (R161): any state to DOWN; out of LOCKED it hands the change on and raises no cause. -/
def State.disableLink (s : State) (l : LinkId) : State :=
  let u := s.link l
  if u.state = .down then s
  else
    let s := (s.setLink l { u with state := .down, good := 0, timer := none }).notifyLink l .down
    if u.state = .locked then s.linkLeftLocked l else s

/-- LINK CONTROL relock now (R161): LOST to SEARCHING. -/
def State.relockLink (s : State) (l : LinkId) : State :=
  let u := s.link l
  if u.state = .lost then
    (s.setLink l { u with state := .searching, good := 0, timer := none }).notifyLink l .searching
  else s

/-- The effect of a LINE-table switch on a link's relock mode (R162): a field that differs between the banks is taken; the C-link's
mode stays on. -/
def State.linkSettings (s : State) (old : Tables) : State :=
  let take : State → LinkId → State := fun s l =>
    let new := (s.act.linkEntry l).relock
    if l ≠ .C ∧ new ≠ (old.linkEntry l).relock then s.setLink l { s.link l with relock := new } else s
  [LinkId.C, .A, .B, .S].foldl take s

/-- FRAME_DISCARDED (R153). -/
def execFrameDiscarded (l : LinkId) (s : State) : Host.Outcome State Fault Refusal :=
  .next (if s.inReset then s else s.discardFrame l)

/-- LINK_TIMEOUT (R155): the step of the link's timer that brings it to the timeout, with its transition. It does not occur while the
timer is stopped or further from the timeout (log entry 3): after a good frame in LOCKING or LOCKED no expiry follows. -/
def execLinkTimeout (l : LinkId) (s : State) : Host.Outcome State Fault Refusal :=
  .next (if !s.inReset && s.linkDue l then s.stepLink l else s)

end Sys2Proof.Machine
end

