-- ==== Sys2Proof/Machine/Sweep.lean ====
section
/-! DEFINITION. The meaning of SWEEP: taken, set aside or answered by the link unit, and answered with a Sweep Order (R60 to R62,
R64, R160). -/

namespace Sys2Proof.Machine

/-- The Sweep Order of the moment: G of the active bank and the test bits SCU holds (R62). -/
def State.sendSweepOrder (s : State) : State :=
  s.send (.sweepOrder { testBits := s.scu.testBits, group := s.act.vibration.scalars.g })

/-- The answer of a link that is not LOCKED: G and every test bit clear (R160). -/
def State.sendBareOrder (s : State) : State :=
  s.send (.sweepOrder { testBits := 0, group := s.act.vibration.scalars.g })

/-- The channel values of a Sweep, read as signed counts (R60). -/
def sweepValue (f : SweepFrame) (c : Fin 8) : Int := signed (f.values.getD c.val 0)

/-- A good Sweep by the state of the S-link (R60, R61, R160). -/
def State.handleSweep (s : State) (f : SweepFrame) : State :=
  let s :=
    if s.linkS.state = .locked then
      let s :=
        if f.group.toNat = s.act.vibration.scalars.g then s.takeSweep (sweepValue f) (signed f.reference) f.testEcho else s
      s.sendSweepOrder
    else s.sendBareOrder
  s.goodFrame .S

/-- SWEEP: a frame whose length is not the one its group-size echo fixes is discarded (R153); a link that is DOWN does not watch its
line (R151). -/
def execSweep (f : SweepFrame) (s : State) : Host.Outcome State Fault Refusal :=
  .next <|
    if s.inReset ∨ s.linkS.state = .down then s
    else if f.lengthOk then s.handleSweep f
    else s.discardFrame .S

end Sys2Proof.Machine
end

