-- ==== Sys2Proof/Machine/Regulator.lean ====
section
/-! DEFINITION. The current regulators (chapter 01): conditioning, measurement, checks, calibration, gate decision, regulation, and
the meaning of SAMPLE with the period reference that P-link A carries (R37, R119). -/

namespace Sys2Proof.Machine

/-! ## Conditioning and measurement (R2 to R7) -/

/-- A raw phase current at full scale: delivered as +32767, −32767 or −32768 (R2). -/
def atFullScale (w : Word) : Bool := (signed w).natAbs == 32767

/-- The three conditioned phase currents (R3). -/
structure PhaseCurrents where
  a : Int
  b : Int
  c : Int
  deriving DecidableEq, Repr

/-- The offsets subtracted and the third current formed (R3). -/
def condition (r : Regulator) (f : SampleFrame) : PhaseCurrents :=
  let a := sat (signed f.ia - r.offsetA)
  let b := sat (signed f.ib - r.offsetB)
  { a := a, b := b, c := sat (-a - b) }

/-- The Clarke transform's second axis (R6). -/
def clarkeBeta (a b : Int) : Int := sat (rounded ((a + 2 * b) * 18919) 32768)

/-- The measured id (R7). -/
def parkD (alpha beta s c : Int) : Int := sat (rounded (alpha * c + beta * s) 32768)

/-- The measured iq (R7). -/
def parkQ (alpha beta s c : Int) : Int := sat (rounded (-alpha * s + beta * c) 32768)

/-- The flux angle of a Sample: θ0 + age × Δθ modulo 65536 (R13). -/
def fluxAngle (ld : LimitedDemand) (age : Nat) : Word := ld.theta0 + BitVec.ofInt 16 (age * ld.dtheta)

/-! ## Checks (R8 to R12) -/

/-- The overcurrent condition (R8). -/
def overcurrent (threshold : Nat) (p : PhaseCurrents) (f : SampleFrame) : Bool :=
  decide (threshold < p.a.natAbs) || decide (threshold < p.b.natAbs) || decide (threshold < p.c.natAbs)
    || atFullScale f.ia || atFullScale f.ib

/-- The module-fault flag: bit 0 of the flag word (R166). -/
def moduleFault (f : SampleFrame) : Bool := f.flags.getLsbD 0

/-- The thermal factor of a heatsink temperature (R12). -/
def thermalFactor (e : MotorEntry) (temp : Int) : Nat :=
  if temp < e.t1 then 32767 else if temp < e.t2 then e.f1 else e.f2

/-! ## Regulation (R18 to R23) -/

/-- What the PI stage leaves: the integrators and the two rotating-frame voltages. -/
structure PiResult where
  intD : Int
  intQ : Int
  vd : Int
  vq : Int
  deriving DecidableEq, Repr

/-- The two PI regulators and the voltage limit, the d axis served first (R18 to R21). -/
def piStage (e : MotorEntry) (r : Regulator) (ld : LimitedDemand) (h : Nat) : PiResult :=
  let idRef := ld.id
  let iqRef := rounded (ld.iq * h) 32768
  let ed := idRef - r.idMeas
  let eq := iqRef - r.iqMeas
  let pd := rounded (e.kpD * ed) 4096
  let pq := rounded (e.kpQ * eq) 4096
  let intD := clamp (r.intD + e.kiD * ed) (e.mceil * 65536)
  let vd := clamp (pd + rounded intD 65536) e.mceil
  let vqLim := isqrt (e.mceil * e.mceil - vd.natAbs * vd.natAbs)
  let intQ := clamp (r.intQ + e.kiQ * eq) (vqLim * 65536)
  let vq := clamp (pq + rounded intQ 65536) vqLim
  { intD := intD, intQ := intQ, vd := vd, vq := vq }

/-- The inverse Park transform (R23). -/
def inversePark (vd vq s c : Int) : Int × Int :=
  (sat (rounded (vd * c - vq * s) 32768), sat (rounded (vd * s + vq * c) 32768))

/-! ## The Sample's stages at the regulator (R4) -/

/-- Stages 1 and 2: fields read and stored, id and iq measured (R2, R7), the age stepped after its use (R13). -/
def State.measure (s : State) (m : Motor) (f : SampleFrame) : State :=
  let r := s.reg m
  let ld := s.ld m
  let p := condition r f
  let theta := fluxAngle ld r.age
  let beta := clarkeBeta p.a p.b
  s.setReg m
    { r with
      udcLast := f.udc.toNat
      tempLast := signed f.temp
      idMeas := parkD p.a beta (sinOf theta) (cosOf theta)
      iqMeas := parkQ p.a beta (sinOf theta) (cosOf theta)
      age := min (r.age + 1) 255 }

/-- Stage 3: the checks in their order (R4): overcurrent (R8), module fault (R10), DC link (R11), heatsink with its thermal factor
(R12), demand age (R15). `oc` is the overcurrent condition and `age` the age read. A udc that ends the one DC-link cause and begins the
other in the same Sample moves both, and R11 names no order between them: the model judges UNDERVOLT before OVERVOLT, DESIGN CHOICE, log
entry 37. -/
def State.checkSample (s : State) (m : Motor) (f : SampleFrame) (oc : Bool) (age : Nat) : State :=
  let e := s.act.motorEntry m
  let udc := f.udc.toNat
  let temp := signed f.temp
  let s := s.follow (.overcurrent m) oc (!oc)
  let s := s.follow (.module m) (moduleFault f) (!moduleFault f)
  let s := s.follow (.undervolt m) (decide (udc < e.uLo)) (decide (e.uLo + e.uHyst ≤ udc))
  let s := s.follow (.overvolt m) (decide (e.uHi < udc)) (decide ((udc : Int) ≤ (e.uHi : Int) - e.uHyst))
  let s := s.follow (.heatsink m) (decide (e.t3 ≤ temp)) (decide (temp ≤ e.t3 - e.tHyst))
  let s := s.setReg m { s.reg m with ft := thermalFactor e temp }
  if e.nStale ≤ age then s.raise .demandLost else s

/-- The mean of 256 raw counts, rounded (R26). -/
def offsetOf (sum : Int) : Int := (sum + 128) / 256

/-- A calibration in flight at a Sample taken (R25, R26): aborted by the module-fault flag, else the Sample is counted, and the
256th completes it. -/
def State.calibrateSample (s : State) (m : Motor) (f : SampleFrame) : State :=
  let r := s.reg m
  match r.calibration with
  | none => s
  | some k =>
    if moduleFault f then s.abortCalibration m
    else
      let sumA := k.sumA + signed f.ia
      let sumB := k.sumB + signed f.ib
      if k.count + 1 < 256 then
        s.setReg m { r with calibration := some { count := k.count + 1, sumA := sumA, sumB := sumB } }
      else
        let a := offsetOf sumA
        let b := offsetOf sumB
        let lim := (s.act.motorEntry m).offLim
        if lim < a.natAbs ∨ lim < b.natAbs then
          (s.setReg m { r with calibration := none, calibrated := false }).notifyCalDone m 1
        else
          (s.setReg m { r with calibration := none, calibrated := true, offsetA := a, offsetB := b }).notifyCalDone m 0

/-- Stage 4: gates are permitted in RUN or HOLD without overcurrent and without a calibration of the motor in flight (R16). -/
def State.gatesPermitted (s : State) (m : Motor) (oc : Bool) : Bool :=
  s.running && !oc && (s.reg m).calibration.isNone

/-- Stages 5 and 6: the PI stage and the Modulation frame (R16, R18 to R23), at the Sample's flux angle. -/
def State.regulate (s : State) (m : Motor) (seq : Word) (theta : Word) : State :=
  let r := s.reg m
  let p := piStage (s.act.motorEntry m) r (s.ld m) s.tl.h
  let v := inversePark p.vd p.vq (sinOf theta) (cosOf theta)
  (s.setReg m { r with intD := p.intD, intQ := p.intQ }).send
    (.modulation m { seq := seq, gate := true, va := v.1, vb := v.2 })

/-- The whole handling of a Sample at its regulator (R4). -/
def State.takeSample (s : State) (m : Motor) (f : SampleFrame) : State :=
  let r := s.reg m
  let theta := fluxAngle (s.ld m) r.age
  let oc := overcurrent (s.act.motorEntry m).ocThreshold (condition r f) f
  let s := s.measure m f
  let s := s.checkSample m f oc r.age
  let s := s.calibrateSample m f
  if s.gatesPermitted m oc then s.regulate m f.seq theta else s.send (.modulation m (gatesOff f.seq))

/-! ## The period reference (R37, R119) -/

/-- H at a period reference: down in HOLD, up in RUN (R37). -/
def State.advanceHold (s : State) : State :=
  let step := s.act.torque.scalars.rampStep
  match s.tu.drive with
  | .hold => s.setTl { s.tl with h := s.tl.h - step }
  | .run => s.setTl { s.tl with h := min 32767 (s.tl.h + step) }
  | .stopped | .tripped => s

/-- A good Sample by the state of its link (R158), and the link transition it causes. The transition comes after CRA's handling and, on P-link A,
before the snapshot that R119 puts at the close of the event (DEDUCED, log entry 42). -/
def State.handleSample (s : State) (m : Motor) (f : SampleFrame) : State :=
  let s :=
    if (s.link (powerLink m)).state = .locked then s.takeSample m f else s.send (.modulation m (gatesOff f.seq))
  s.goodFrame (powerLink m)

/-- SAMPLE: a link that is DOWN does not watch its line (R151). On P-link A the Sample is a period reference: H advances before its
handling and the snapshot closes it (R37, R119). -/
def execSample (m : Motor) (f : SampleFrame) (s : State) : Host.Outcome State Fault Refusal :=
  .next <|
    if s.inReset ∨ (s.link (powerLink m)).state = .down then s
    else
      match m with
      | .A => ((s.advanceHold.countPeriod).handleSample .A f).closePeriod
      | .B => s.handleSample .B f

end Sys2Proof.Machine
end

