-- ==== Sys2Proof/Machine/TripInputs.lean ====
section
/-! DEFINITION. The four trip inputs: the filter (R111), level and edge senses (R112, R113), the restart at a LINE-table switch
(R114), and the meanings of the two trip-input commands. -/

namespace Sys2Proof.Machine

/-- The LINE entry of a trip input. -/
def State.tinEntry (s : State) (x : Fin 4) : TripInputEntry := s.act.line.tin[x]

/-- One trip input's filter. -/
def State.setTin (s : State) (x : Fin 4) (t : TripInput) : State := s.setTu { s.tu with tin := s.tu.tin.set x t }

/-- Whether a filtered level is the active level of a level sense (R112). -/
def Sense.activeAt : Sense → Level → Bool
  | .levelLow, .low => true
  | .levelHigh, .high => true
  | _, _ => false

/-- Whether a filtered transition to a level is of a kind that an edge sense selects (R113). -/
def Sense.selects : Sense → Level → Bool
  | .falling, .low => true
  | .rising, .high => true
  | .bothEdges, _ => true
  | _, _ => false

/-- A filtered transition (R111): the raw level becomes the filtered level; a level sense raises or clears its cause (R112), an edge
sense raises it for the kinds it selects (R113). -/
def State.filterTransition (s : State) (x : Fin 4) : State :=
  let t := s.tu.tin[x]
  let sense := (s.tinEntry x).sense
  let s := s.setTin x { t with filtered := t.raw }
  if sense.isEdge then if sense.selects t.raw then s.raise (.tin x) else s
  else s.follow (.tin x) (sense.activeAt t.raw) (!sense.activeAt t.raw)

/-- TRIP_INPUT_CHANGE (R111): the line takes the level; a change restarts the input's stable time, and with a min_duration of 0
makes a filtered transition at once. While a reset is held the inputs are not watched, and only the line changes. -/
def execTripInputChange (x : Fin 4) (level : Level) (s : State) : Host.Outcome State Fault Refusal :=
  let s := s.setPins { s.pins with tin := s.pins.tin.set x level }
  .next <|
    if s.inReset then s
    else
      let t := s.tu.tin[x]
      if t.raw = level then s
      else
        let s := s.setTin x { t with raw := level, stable := 0 }
        if level ≠ t.filtered ∧ (s.tinEntry x).minDuration = 0 then s.filterTransition x else s

/-- The next step of an input whose raw level differs from its filtered level brings its stable time to min_duration (R111). -/
def State.tinDue (s : State) (x : Fin 4) : Bool :=
  decide (s.tu.tin[x].raw ≠ s.tu.tin[x].filtered ∧ (s.tinEntry x).minDuration ≤ s.tu.tin[x].stable + 1)

/-- One millisecond step of an input's filter (R111): the stable time steps, saturating at 1000, and a filtered transition follows
where the step brings it to min_duration. -/
def State.stepTin (s : State) (x : Fin 4) : State :=
  let t := s.tu.tin[x]
  let u := s.setTin x { t with stable := min (t.stable + 1) 1000 }
  if s.tinDue x then u.filterTransition x else u

/-- FILTERED_TRANSITION (R111): the step of R111 that brings the stable time of an input whose raw level differs from its filtered
level to min_duration. It does not occur while the levels agree or the stable time is further from min_duration (log entry 3). -/
def execFilteredTransition (x : Fin 4) (s : State) : Host.Outcome State Fault Refusal :=
  .next (if !s.inReset && s.tinDue x then s.stepTin x else s)

/-- The effects of a LINE-table switch on the trip inputs (R114): every filter restarts, then each input's cause is brought into line
with its filtered level under the new sense, and the cause of an edge sense is cleared. The manual names no order among the four
inputs. The model takes them from TIN0 to TIN3, the raises and the clears as they come: DESIGN CHOICE, log entry 36. -/
def State.tripInputSettings (s : State) : State :=
  let s := s.setTu { s.tu with
    tin := Vector.ofFn fun x : Fin 4 =>
      { raw := s.tu.tin[x].raw, filtered := s.tu.tin[x].raw, stable := 0 } }
  (List.finRange 4).foldl
    (fun s x =>
      let sense := (s.tinEntry x).sense
      if sense.isEdge then s.clearCause (.tin x)
      else s.follow (.tin x) (sense.activeAt s.tu.tin[x].filtered) (!sense.activeAt s.tu.tin[x].filtered))
    s

end Sys2Proof.Machine
end

