-- ==== Sys2Proof/Machine/Upstream.lean ====
section
/-! DEFINITION. The upstream direction of the C-link (R164, R165), the words of the frames the part sends (R166), and the meanings of
the commands that end a frame's sending. -/

namespace Sys2Proof.Machine

/-! ## Words (R166) -/

/-- A cause set as a 32-bit value in two words. -/
def causeWords (x : CauseSet) : List Word := wideWords x.toNat

/-- A motor's five words: limited iq, measured id, measured iq, udc, heatsink temperature. -/
def MotorReading.words (r : MotorReading) : List Word :=
  [intWord r.iqLimited, intWord r.idMeas, intWord r.iqMeas, natWord r.udc, intWord r.temp]

def Modulation.words (f : Modulation) : List Word := [f.seq, natWord (flag f.gate), intWord f.va, intWord f.vb]

def SweepOrder.words (f : SweepOrder) : List Word := [natWord (f.testBits.toNat * 256 + f.group)]

def Report.words (r : Report) : List Word :=
  [natWord (r.seq.toNat * 256 + r.drive.code * 64 + r.e.code * 8 + r.reason.code),
   natWord (flag r.dropped * 32768 + r.marker.code * 8192 + r.band * 1024 + r.v.val * 256 + worstCode r.worst * 16),
   natWord r.waiting]
  ++ wideWords r.lastPeriod
  ++ (r.a.words ++ [natWord r.limitA]) ++ (r.b.words ++ [natWord r.limitB])
  ++ [natWord r.h] ++ causeWords r.active ++ causeWords r.latched

def Reply.words (r : Reply) : List Word :=
  [natWord (r.tag.toNat * 256 + r.code.toNat), natWord r.status.code] ++ r.result

def Notice.words (n : Notice) : List Word :=
  [natWord (n.kind.code * 256 + flag n.overflow), n.subject1, n.subject2, n.demandCount]

/-- The frame on the line: header, payload and check word (R151, R152). -/
def Sent.lineWords : Sent → List Word
  | .modulation _ f => Sys2Proof.lineWords .modulation f.words
  | .sweepOrder f => Sys2Proof.lineWords .sweepOrder f.words
  | .report r => Sys2Proof.lineWords .report r.words
  | .management (.reply r) => Sys2Proof.lineWords .reply r.words
  | .management (.notice n) => Sys2Proof.lineWords .notice n.words

/-! ## Arbitration (R164, R165) -/

/-- A Report begins to be sent. -/
def State.sendReport (s : State) (r : Report) : State :=
  (s.setUp { s.up with sending := .report r }).send (.report r)

/-- A Report handed to CLU (R164): sent at once on an idle line, else waiting, in place of one that waits already. -/
def State.handReport (s : State) (r : Report) : State :=
  match s.up.sending with
  | .idle => s.sendReport r
  | .report _ | .management _ => s.setUp { s.up with waiting := some r }

/-- The slot has closed: a waiting Report begins to be sent (R164). -/
def State.closeSlot (s : State) : State :=
  match s.up.waiting with
  | some r => (s.setUp { s.up with waiting := none }).sendReport r
  | none => s.setUp { s.up with sending := .idle }

/-- The management frame chosen for a slot, with the queues it leaves (R165): the oldest Reply, else the head of the high notice
queue, else the head of the low one. -/
def Management.choose (me : Management) : Option (ManagementFrame × Management) :=
  match me.replies, me.high, me.low with
  | r :: rest, _, _ => some (.reply r, { me with replies := rest })
  | [], n :: rest, _ => some (.notice n, { me with high := rest })
  | [], [], n :: rest => some (.notice n, { me with low := rest })
  | [], [], [] => none

/-- A Report's slot opens (R164, R165): one management frame, or none and the slot closes at once. -/
def State.openSlot (s : State) : State :=
  match s.me.choose with
  | some (f, me) =>
    ((s.setMe me).setUp { s.up with sending := .management f }).send (.management f)
  | none => s.closeSlot

/-- REPORT_SENT (R164): the slot opens; while the C-link is not LOCKED no slot opens and the line is idle. No Report in sending: the
event does not occur (log entry 3). -/
def execReportSent (s : State) : Host.Outcome State Fault Refusal :=
  .next <|
    if s.inReset then s
    else
      match s.up.sending with
      | .report _ => if s.linkC.state = .locked then s.openSlot else s.setUp { s.up with sending := .idle }
      | .idle | .management _ => s

/-- MANAGEMENT_FRAME_SENT (R164): the slot closes. No management frame in sending: the event does not occur (log entry 3). -/
def execManagementFrameSent (s : State) : Host.Outcome State Fault Refusal :=
  .next <|
    if s.inReset then s
    else
      match s.up.sending with
      | .management _ => s.closeSlot
      | .idle | .report _ => s

end Sys2Proof.Machine
end

