-- ==== Sys2Proof/Machine/Limiter.lean ====
section
/-! DEFINITION. The torque limiter (chapter 02): the seven stages of a Demand (R29), the table switches that take effect at its first
(R173), the start indication (R102, R103), the Report (R48), and the meaning of DEMAND. -/

namespace Sys2Proof.Machine

/-! ## Stage 1: table switches (R173) -/

def TableFlags.get (f : TableFlags) : TableId → Bool
  | .motor => f.motor
  | .torque => f.torque
  | .vibration => f.vibration
  | .action => f.action
  | .line => f.line

def TableFlags.set (f : TableFlags) (b : Bool) : TableId → TableFlags
  | .motor => { f with motor := b }
  | .torque => { f with torque := b }
  | .vibration => { f with vibration := b }
  | .action => { f with action := b }
  | .line => { f with line := b }

/-- A bank set with one table taken from another. -/
def Tables.take (t other : Tables) : TableId → Tables
  | .motor => { t with motor := other.motor }
  | .torque => { t with torque := other.torque }
  | .vibration => { t with vibration := other.vibration }
  | .action => { t with action := other.action }
  | .line => { t with line := other.line }

/-- The two banks of a table exchanged and its flag cleared (R173). -/
def Management.exchange (me : Management) (t : TableId) : Management :=
  { me with
    active := me.active.take me.standby t
    standby := me.standby.take me.active t
    pendingSwitch := me.pendingSwitch.set false t }

/-- One regulator's integrators clamped to the Mceil in force (R22). -/
def State.clampIntegrators (s : State) (m : Motor) : State :=
  let r := s.reg m
  let bound := (s.act.motorEntry m).mceil * 65536
  s.setReg m { r with intD := clamp r.intD bound, intQ := clamp r.intQ bound }

/-- What the blocks do at a switch of a table (R173); `old` holds the banks that were active. A TORQUE switch acts through what reads
its fields (R42), and N_post governs the next capture (R122). DESIGN CHOICE (log entry 40): R173 lists the blocks of a LINE switch and does not
order them, and R99 lets raises and clears of different blocks go either way; the model takes the marker timer, then the trip inputs, then
the links. -/
def State.switchEffects (s : State) (old : Tables) : TableId → State
  | .motor => (s.clampIntegrators .A).clampIntegrators .B
  | .torque => s
  | .vibration => (s.vibrationSettings old.vibration).checkSettings old.vibration
  | .action => s.reconsider
  | .line => ((s.markerSettings old.line.marker).tripInputSettings).linkSettings old

/-- A pending switch of one table takes effect: banks, flag, TABLE_SWITCHED notice, effects (R173). -/
def State.switchTable (s : State) (t : TableId) : State :=
  if s.me.pendingSwitch.get t then
    let old := s.act
    let s := s.setMe (s.me.exchange t)
    let s := s.notify .tableSwitched (natWord t.code) 0 .low
    s.switchEffects old t
  else s

/-- Stage 1: every pending switch, in the order of the table codes (R173). -/
def State.switchTables (s : State) : State :=
  [TableId.motor, .torque, .vibration, .action, .line].foldl State.switchTable s

/-! ## Stage 2: overload (R40, R41) -/

/-- The accumulator and the latch with OVERLOAD. -/
def State.updateOverload (s : State) : State :=
  let t := s.act.torque.scalars
  let total := s.regA.iqMeas.natAbs + s.regB.iqMeas.natAbs
  let acc :=
    if t.lcontTotal < total then min (s.tl.acc + (total - t.lcontTotal)) 2000000000 else s.tl.acc - t.decay
  let s := s.setTl { s.tl with acc := acc }
  if s.tl.latch then
    if acc ≤ t.accRelease then (s.setTl { s.tl with latch := false }).clearCause .overload else s
  else
    if t.accMax ≤ acc then (s.setTl { s.tl with latch := true }).raise .overload else s

/-! ## Stage 3: the limited demands (R31 to R36) -/

/-- The base limit of a motor in a torque band (R32). -/
def TorqueTable.bandLimit (t : TorqueTable) (band : Fin 8) : Motor → Nat
  | .A => t.bands[band].limitA
  | .B => t.bands[band].limitB

/-- The continuous-rating limit of a motor (R34). -/
def TorqueScalars.lcont (t : TorqueScalars) : Motor → Nat
  | .A => t.lcontA
  | .B => t.lcontB

/-- One factor of R33: rounded(L × F / 32768). -/
def scaleLimit (l factor : Nat) : Nat := (rounded (l * factor) 32768).toNat

/-- The derate factor Fv (R75). -/
def State.factorV (s : State) : Nat := s.act.vibration.scalars.derate[s.vm.v]

/-- The derate-action factor Fc (R33). -/
def State.factorC (s : State) : Nat := if s.anyActing .derate then s.act.torque.scalars.derateAction else 32767

/-- The band as an index of the TORQUE bands. -/
def State.bandIndex (s : State) : Fin 8 := Fin.ofNat 8 s.torqueBand

/-- The limit L of a motor (R32 to R34). -/
def State.limitOf (s : State) (m : Motor) : Nat :=
  let lb := s.act.torque.bandLimit s.bandIndex m
  let l := scaleLimit (scaleLimit (scaleLimit lb s.factorV) (s.reg m).ft) s.factorC
  if s.tl.latch then min l (s.act.torque.scalars.lcont m) else l

/-- The total scaling of R35: truncated toward zero. -/
def shareTotal (iq : Int) (total sum : Nat) : Int := if total < sum then (iq * total).tdiv sum else iq

/-- One motor's clamped demands: id by R31, iq by R34, and whether the iq demand was clamped. -/
structure Clamped where
  id : Int
  iq : Int
  limit : Nat
  clamped : Bool
  deriving DecidableEq, Repr

def State.clampDemand (s : State) (m : Motor) (d : MotorDemand) : Clamped :=
  let l := s.limitOf m
  { id := clamp (signed d.id) (s.act.motorEntry m).idMax
    iq := clamp (signed d.iq) l
    limit := l
    clamped := decide (l < (signed d.iq).natAbs) }

/-- The record stored for one motor (R36). -/
def storedDemand (x : Clamped) (d : MotorDemand) (total sum : Nat) : LimitedDemand :=
  { id := x.id, iq := shareTotal x.iq total sum, theta0 := d.theta, dtheta := signed d.dtheta, limit := x.limit }

/-- Stage 3: limits, sharing, the two records, both ages 0, DEMAND_LOST cleared (R31 to R36). -/
def State.storeDemands (s : State) (f : DemandFrame) : State :=
  let a := s.clampDemand .A f.a
  let b := s.clampDemand .B f.b
  let total := s.act.torque.bands[s.bandIndex].total
  let sum := a.iq.natAbs + b.iq.natAbs
  let s := s.setTl { s.tl with ldA := storedDemand a f.a total sum, ldB := storedDemand b f.b total sum }
  let s := s.setRegA { s.regA with age := 0 }
  let s := s.setRegB { s.regB with age := 0 }
  s.clearCause .demandLost

/-- Whether either motor is marked clamped at a Demand (R34). -/
def State.anyClamped (s : State) (f : DemandFrame) : Bool :=
  (s.clampDemand .A f.a).clamped || (s.clampDemand .B f.b).clamped

/-! ## Stages 4 and 5: imbalance and stall (R43 to R45) -/

/-- The imbalance condition (R43). -/
def State.imbalanced (s : State) : Bool :=
  let t := s.act.torque.scalars
  let a := s.regA.iqMeas.natAbs
  let b := s.regB.iqMeas.natAbs
  decide (t.imbThr < (a - b) + (b - a)) && decide (t.imbMin ≤ a + b)

/-- The imbalance watch in RUN or HOLD (R43, R44). -/
def State.watchImbalance (s : State) : State :=
  let n := s.act.torque.scalars.imbCount
  if !s.running then s
  else if !s.tu.active.has .imbalance then
    if s.imbalanced then
      let up := min (s.tl.upRun + 1) 65535
      if n ≤ up then (s.raise .imbalance).clearRuns else s.setTl { s.tl with upRun := up }
    else s.setTl { s.tl with upRun := 0 }
  else
    if s.imbalanced then s.setTl { s.tl with downRun := 0 }
    else
      let down := min (s.tl.downRun + 1) 65535
      if n ≤ down then (s.clearCause .imbalance).clearRuns else s.setTl { s.tl with downRun := down }

/-- The stall watch in RUN or HOLD (R45). -/
def State.watchStall (s : State) (clamped : Bool) : State :=
  if s.running && clamped && decide (s.act.torque.scalars.stallTime ≤ s.mt.silence) then s.raise .stall else s

/-! ## Stage 6: the start flag (R46, R102, R103) -/

/-- The indication TL hands the trip unit (R46). -/
inductive Indication where
  | risingEdge
  | held
  | clear
  deriving DecidableEq, Repr

def indication (start prev : Bool) : Indication := if start then if prev then .held else .risingEdge else .clear

/-- Both P-links are LOCKED. -/
def State.powerLinksLocked (s : State) : Bool := s.linkA.state == .locked && s.linkB.state == .locked

/-- E is Hold or Trip. -/
def Action.atHoldOrAbove (a : Action) : Bool := a == .hold || a == .trip

/-- The conditions of a start from STOPPED (R102). -/
def State.startAllowed (s : State) : Bool :=
  s.regA.calibrated && s.regB.calibrated && !s.calibrating && s.powerLinksLocked && !s.tu.e.atHoldOrAbove

/-- The first reason that applies to a refused edge (R103). -/
def State.refusalReason (s : State) : StartReason :=
  if s.calibrating then .calibrating
  else if !(s.regA.calibrated && s.regB.calibrated) then .notCalibrated
  else if !s.powerLinksLocked then .linkNotLocked
  else .actionAtHoldOrAbove

/-- Stage 6 at the trip unit: the indication's effect (R102) and the start-refused reason (R103). A rising edge in RUN or HOLD, which
no run shows, changes nothing (log entry 10). -/
def State.actOnStart (s : State) (i : Indication) : State :=
  let reason (s : State) (r : StartReason) : State := s.setTu { s.tu with reason := r }
  match i, s.tu.drive with
  | .clear, .run | .clear, .hold => reason s.enterStopped .none
  | .clear, .stopped | .clear, .tripped => reason s .none
  | .held, .run | .held, .hold => reason s .none
  | .held, .stopped | .held, .tripped => reason s .noRisingEdge
  | .risingEdge, .stopped => if s.startAllowed then reason s.enterRun .none else reason s s.refusalReason
  | .risingEdge, .tripped => reason s s.refusalReason
  | .risingEdge, .run | .risingEdge, .hold => reason s .none

/-- Stage 6: the indication, then the previous start flag (R46). -/
def State.handStart (s : State) (start : Bool) : State :=
  let s := s.actOnStart (indication start s.tl.prevStart)
  s.setTl { s.tl with prevStart := start }

/-! ## Stage 7: the Report (R48) -/

/-- The Report of a Demand, from the state its owners hold. -/
def State.report (s : State) : Report :=
  { seq := s.tl.lastSeq, drive := s.tu.drive, e := s.tu.e, reason := s.tu.reason, dropped := s.me.dropped,
    marker := s.mt.state, band := s.torqueBand, v := s.vm.v, worst := s.worst,
    waiting := s.me.high.length + s.me.low.length, lastPeriod := s.mt.lastPeriod,
    a := s.reading .A, limitA := s.tl.ldA.limit, b := s.reading .B, limitB := s.tl.ldB.limit, h := s.tl.h,
    active := s.tu.active, latched := s.tu.latched }

/-- Stage 7: the Report assembled, the request-dropped flag cleared with it (R174), and handed to CLU. -/
def State.makeReport (s : State) : State :=
  let r := s.report
  (s.setMe { s.me with dropped := false }).handReport r

/-! ## The whole Demand -/

/-- A Demand acted on: its count (R177) and sequence number (R28), then the seven stages (R29). The clamp marks of stage 3 are kept
for the stall watch of stage 5. -/
def State.takeDemand (s : State) (f : DemandFrame) : State :=
  let s := s.setMe { s.me with demandCount := s.me.demandCount + 1 }
  let s := s.setTl { s.tl with lastSeq := f.seq }
  let s := s.switchTables
  let s := s.updateOverload
  let clamped := s.anyClamped f
  let s := s.storeDemands f
  let s := s.watchImbalance
  let s := s.watchStall clamped
  let s := s.handStart f.start
  s.makeReport

/-- DEMAND: acted on when the C-link is LOCKED; otherwise it counts toward lock and is not acted on (R28, R159). -/
def execDemand (f : DemandFrame) (s : State) : Host.Outcome State Fault Refusal :=
  .next <|
    if s.inReset then s
    else if s.linkC.state = .locked then (s.goodFrame .C).takeDemand f
    else s.goodFrame .C

/-- CONTROL_FRAME_NOT_LOCKED (R159): a good Demand or Request on a C-link that is not LOCKED counts toward lock. On a LOCKED C-link the
frame is a DEMAND or a request, so this event does not occur (log entry 3). -/
def execControlFrameNotLocked (s : State) : Host.Outcome State Fault Refusal :=
  .next (if s.inReset ∨ s.linkC.state = .locked then s else s.goodFrame .C)

end Sys2Proof.Machine
end

