-- ==== Sys2Proof/Machine/Resets.lean ====
section
/-! DEFINITION. Resets (R116 to R118) and the loss of supply (R149): what every reset does to the blocks, what its release does, and
the meanings of the reset events. -/

namespace Sys2Proof.Machine

/-- The array after an operation in progress is cut short (R149): the slot being programmed reads Invalid, the sector being erased a
mix of Invalid and Blank. -/
def RecordStore.cutArray (rs : RecordStore) (draw : Nat) : Slots ArraySlot :=
  match rs.state with
  | .programming => slotPut rs.writeSlot.val .invalid rs.array
  | .erasing => cutErase (sectorOf rs.writeSlot) draw rs.array
  | .clearing sector => cutErase sector draw rs.array
  | .scanning | .idle | .fault => rs.array

/-- An erase is in progress, so a cut takes a fresh free value. -/
def RecordStore.eraseInProgress (rs : RecordStore) : Bool :=
  match rs.state with
  | .erasing | .clearing _ => true
  | .scanning | .idle | .programming | .fault => false

/-- Every block at its reset values (R116), with the restart cause set given. The array keeps its contents but for an operation cut
short; the pins, the frames already sent, the resets held and the waiting commands are no block's. -/
def State.resetBlocks (s : State) (restart : RestartSet) : State :=
  { s with
    regA := regulatorReset
    regB := regulatorReset
    tl := limiterReset
    mt := markerReset
    vm := vibrationReset
    scu := sensorReset
    tu := tripUnitReset s.pins.tin restart
    cb := captureReset
    rs := recordStoreReset (s.rs.cutArray s.draws)
    linkC := linkReset
    linkA := linkReset
    linkB := linkReset
    linkS := linkReset
    up := upstreamReset
    me := managementReset
    time := timeReset
    draws := if s.rs.eraseInProgress then s.draws + 1 else s.draws }

/-- The release of a reset (R118): the raw levels are read from the pins (R111), and the trip unit raises RESTART. -/
def State.release (s : State) : State :=
  (s.setTu (tripUnitReset s.pins.tin s.tu.restart)).raise .restart

/-- POWER_ON_RESET (R116, R117): the supply rises and a power-on reset is held; the restart cause set becomes {power-on}. -/
def execPowerOnReset (s : State) : Host.Outcome State Fault Refusal :=
  let s := s.resetBlocks powerOnOnly
  .next ((s.setSupply true).setHeld { s.held with powerOn := true })

/-- LINE_RESET (R116, R117): RSTL goes low and a line reset is held, beside one held already; the restart cause set gains the member
line. Without supply only the line's level changes (log entry 11). -/
def execLineReset (s : State) : Host.Outcome State Fault Refusal :=
  .next <|
    if s.supply then
      let s := s.resetBlocks { s.tu.restart with line := true }
      s.setHeld { s.held with line := true }
    else s.setHeld { s.held with line := true }

/-- One of the resets held is released; the part leaves reset when none is held any more (R116). -/
def State.releaseKind (s : State) (held : ResetHold) : State :=
  let s := s.setHeld held
  if s.inReset then s else s.release

/-- RESET_RELEASE (R116, R118): a reset of the kind is released. A kind that is not held is not released (log entry 3). -/
def execResetRelease (k : ResetKind) (s : State) : Host.Outcome State Fault Refusal :=
  .next <|
    match k with
    | .powerOn => if s.held.powerOn && s.supply then s.releaseKind { s.held with powerOn := false } else s
    | .line => if s.held.line then s.releaseKind { s.held with line := false } else s
    | .requested => s

/-- LOSS_OF_SUPPLY (R149): an array operation in progress is cut short, and TOUT is held low while VDDIO is below range. The blocks
are taken at their reset values until the supply rises and a power-on reset gives them these (log entry 11). -/
def execLossOfSupply (s : State) : Host.Outcome State Fault Refusal :=
  .next ((s.resetBlocks s.tu.restart).setSupply false)

/-- A requested reset (R116, R117): it begins and is released within the Request's event. -/
def State.requestedReset (s : State) : State := (s.resetBlocks { s.tu.restart with requested := true }).release

end Sys2Proof.Machine
end

