-- ==== Sys2Proof/Machine/Requests.lean ====
section
/-! DEFINITION. The handling all Requests share (R174) and the meanings of the requests of the links, the regulators, the sensor check
unit, the trip unit and the management engine's own registers. -/

namespace Sys2Proof.Machine

/-- How many result words a Reply of a code carries (R166). -/
def resultWords (code : Nat) : Nat :=
  match code with
  | 1 => 64
  | 2 => 24
  | 3 => 1
  | 5 => 1
  | 6 => 2
  | 8 => 1
  | 11 => 21
  | 12 => 44
  | 16 => 3
  | 18 => 1
  | 20 => 1
  | _ => 0

/-- Result words filled up with 0 to the number their code has (R166). -/
def fillWords (n : Nat) (ws : List Word) : List Word := ws ++ List.replicate (n - ws.length) 0

/-- What a request leaves: the state, the Reply's status and its result words. -/
structure Answer where
  state : State
  status : Status
  result : List Word := []

/-- An answer that changes nothing. -/
def State.answer (s : State) (status : Status) (result : List Word := []) : Answer := ⟨s, status, result⟩

/-- A Reply at the tail of the reply queue (R174). -/
def State.queueReply (s : State) (tag : Byte) (code : Nat) (status : Status) (result : List Word) : State :=
  s.setMe { s.me with
    replies := s.me.replies ++
      [{ tag := tag, code := BitVec.ofNat 8 code, status := status, result := fillWords (resultWords code) result }] }

/-- A Request by the state of the C-link (R159, R174): acted on when the link is LOCKED, discarded with the request-dropped flag when
four Replies wait; otherwise it counts toward lock. -/
def State.takeRequest (s : State) (act : State → State) : State :=
  if s.inReset then s
  else if s.linkC.state = .locked then
    let s := s.goodFrame .C
    if s.me.replies.length < 4 then act s else s.setMe { s.me with dropped := true }
  else s.goodFrame .C

/-- A Request that is answered by one Reply (R174). -/
def State.request (s : State) (tag : Byte) (code : Nat) (body : State → Answer) : State :=
  s.takeRequest fun s =>
    let a := body s
    a.state.queueReply tag code a.status a.result

/-! ## The trip unit's requests -/

/-- ACKNOWLEDGE (R108): every latched cause that is not active leaves the latched set; E is recomputed; a drive in TRIPPED with E
below Trip enters STOPPED, one in HOLD with E below Hold returns to RUN. -/
def State.acknowledge (s : State) : State :=
  let s := (s.setTu { s.tu with latched := s.tu.latched &&& s.tu.active }).recomputeE
  match s.tu.drive with
  | .tripped => if s.tu.e = .trip then s else s.enterStopped
  | .hold => if s.tu.e.atHoldOrAbove then s else s.moveTo .run
  | .stopped | .run => s

def execAcknowledge (tag : Byte) (s : State) : Host.Outcome State Fault Refusal :=
  .next <| s.request tag 6 fun s =>
    let s := s.acknowledge
    s.answer .done (causeWords s.tu.latched)

/-- REQUEST TRIP (R109). -/
def execRequestTrip (tag : Byte) (s : State) : Host.Outcome State Fault Refusal :=
  .next <| s.request tag 7 fun s => (s.raise .requestedTrip).answer .done

/-- RESET (R116): accepted in STOPPED and TRIPPED, where it is answered by no Reply; refused in RUN and HOLD. -/
def execReset (tag : Byte) (s : State) : Host.Outcome State Fault Refusal :=
  .next <| s.takeRequest fun s =>
    if s.running then s.queueReply tag 19 .refusedState [] else s.requestedReset

/-- CLEAR RESTART CAUSE (R117): the set is emptied, and the Reply carries it as it stood. -/
def execClearRestartCause (tag : Byte) (s : State) : Host.Outcome State Fault Refusal :=
  .next <| s.request tag 20 fun s =>
    (s.setTu { s.tu with restart := { powerOn := false, line := false, requested := false } }).answer .done
      [natWord s.tu.restart.code]

/-! ## The capture buffer's requests -/

/-- CAPTURE NOW (R127): a trigger carrying the entry "request"; the Reply carries the outcome and the capture state it left. -/
def execCaptureNow (tag : Byte) (s : State) : Host.Outcome State Fault Refusal :=
  .next <| s.request tag 8 fun s =>
    let p := s.trigger .request
    p.1.answer .done [natWord (p.2.code * 4 + p.1.cb.state.code)]

/-- The present capture discarded: no valid snapshot, an empty cause list (R128, R129). -/
def CaptureBuffer.discard (cb : CaptureBuffer) (state : CaptureState) : CaptureBuffer :=
  { cb with state := state, valid := 0, causes := [], short := false, remaining := 0, cadence := none }

/-- CAPTURE RELEASE (R128). -/
def execCaptureRelease (tag : Byte) (s : State) : Host.Outcome State Fault Refusal :=
  .next <| s.request tag 9 fun s =>
    match s.cb.state with
    | .frozen | .disarmed => (s.setCb (s.cb.discard .armed)).answer .done
    | .armed => s.answer .done
    | .triggered => s.answer .refusedState

/-- CAPTURE DISARM (R129): from TRIGGERED the capture is abandoned, which closes a record bound to it without a summary. -/
def execCaptureDisarm (tag : Byte) (s : State) : Host.Outcome State Fault Refusal :=
  .next <| s.request tag 10 fun s =>
    match s.cb.state with
    | .disarmed => s.answer .done
    | .triggered =>
      let s := s.setCb (s.cb.discard .disarmed)
      (s.setRs (s.rs.captureEnded none)).answer .done
    | .armed | .frozen => (s.setCb (s.cb.discard .disarmed)).answer .done

/-- The snapshot's words of a READ CAPTURE reply (R166). -/
def Snapshot.words (x : Snapshot) : List Word :=
  [x.period, natWord (x.seq.toNat * 256 + x.drive.code * 64 + x.e.code * 8), natWord x.h]
  ++ x.a.words ++ x.b.words
  ++ [natWord (x.v.val * 256 + worstCode x.worst), natWord x.worstRms]

/-- READ CAPTURE (R130): the n-th valid snapshot of a frozen capture, with its valid count, short flag and cause list. -/
def execReadCapture (tag : Byte) (n : Word) (s : State) : Host.Outcome State Fault Refusal :=
  .next <| s.request tag 11 fun s =>
    if s.cb.state ≠ .frozen then s.answer .refusedState
    else if s.cb.valid ≤ n.toNat then s.answer .badIndex
    else
      s.answer .done
        ((s.cb.snapshotAt (s.cb.validSlot n.toNat)).words
          ++ [natWord s.cb.valid, natWord (flag s.cb.short * 32768 + s.cb.causes.length)]
          ++ s.cb.causes.map fun x => natWord x.code)

/-! ## The record store's requests -/

/-- READ RECORD is answered from the array and the queue but in SCANNING and CLEARING (R146). -/
def StoreState.busyForRead : StoreState → Bool
  | .scanning | .clearing _ => true
  | .idle | .programming | .erasing | .fault => false

/-- Insert into a list of Valid records by falling sequence number. -/
def insertNewest (x : Nat × Nat × Record) : List (Nat × Nat × Record) → List (Nat × Nat × Record)
  | [] => [x]
  | y :: rest => if y.2.1 ≤ x.2.1 then x :: y :: rest else y :: insertNewest x rest

/-- The Valid records by falling sequence number (R146). -/
def newestFirst (array : Slots ArraySlot) : List (Nat × Nat × Record) :=
  (validRecords array).foldr insertNewest []

/-- Four words for a cause list entry pair's place: the cause and its offset, 0 beyond the count (R166). -/
def causeListWords (causes : List (Cause × Nat)) : List Word :=
  fillWords 16 ((causes.map fun x => [natWord x.1.val, natWord x.2]).flatten)

/-- The six summary words, 0 each when absent (R166). -/
def summaryWords : Option Summary → List Word
  | none => List.replicate 6 0
  | some x =>
    [natWord x.maxIqA, natWord x.maxIqB, natWord x.minUdcA, natWord x.minUdcB, natWord x.maxV.val, natWord x.valid]

/-- A record's 44 result words (R166); `stored` gives the slot and the sequence number of a stored record. DESIGN CHOICE (log entry 39): R166
gives 0 when absent for words 38 to 43 alone; word 0 reads 0 in bit 11 (short) where no summary is present and in bits 10 to 8 where no
restart cause set is. -/
def Record.words (r : Record) (stored : Option (Nat × Nat)) : List Word :=
  [natWord (flag stored.isSome * 32768 + flag r.timeSet * 16384 + flag r.merged * 8192 + flag r.summary.isSome * 4096
      + flag ((r.summary.map Summary.short).getD false) * 2048 + ((r.restart.map RestartSet.code).getD 0) * 256
      + flag r.restart.isSome * 128)]
  ++ wideWords ((stored.map Prod.snd).getD 0)
  ++ [natWord ((stored.map Prod.fst).getD 65535)]
  ++ wideWords r.seconds
  ++ [natWord (r.first.val * 256 + r.drive.code * 64 + r.e.code * 8 + r.band),
      natWord (worstCode r.worst * 256 + r.v.val * 16 + r.marker.code)]
  ++ wideWords r.lastPeriod
  ++ [natWord r.worstRms]
  ++ r.a.words ++ r.b.words
  ++ [natWord (r.causes.length * 256 + r.further)]
  ++ causeListWords r.causes
  ++ summaryWords r.summary

/-- The record a selector names, with slot and sequence when stored (R146). -/
def RecordStore.select (rs : RecordStore) (form value : Nat) : Option (Option (Nat × Nat) × Record) :=
  match form with
  | 0 => if value ≤ 63 then ((newestFirst rs.array)[value]?).map fun x => (some (x.1, x.2.1), x.2.2) else none
  | 1 => ((validRecords rs.array).find? fun x => x.2.1 == value).map fun x => (some (x.1, x.2.1), x.2.2)
  | 2 => (rs.queue[value]?).map fun r => (none, r)
  | _ => none

/-- READ RECORD (R146). -/
def execReadRecord (tag : Byte) (form hi lo : Word) (s : State) : Host.Outcome State Fault Refusal :=
  .next <| s.request tag 12 fun s =>
    if s.rs.state.busyForRead then s.answer .refusedBusy
    else
      match s.rs.select form.toNat (wideValue hi lo) with
      | some x => s.answer .done (x.2.words x.1)
      | none => s.answer .badIndex

/-- The erase of one sector of ERASE LOG begins (R145). -/
def RecordStore.clearSector (rs : RecordStore) (sector : Fin 4) : RecordStore :=
  { rs with state := .clearing sector, array := startErase sector rs.array }

/-- ERASE LOG (R144). -/
def execEraseLog (tag : Byte) (s : State) : Host.Outcome State Fault Refusal :=
  .next <| s.request tag 13 fun s =>
    match s.rs.state with
    | .idle | .fault =>
      if s.running then s.answer .refusedState else (s.setRs (s.rs.clearSector 0)).answer .pending
    | .scanning | .programming | .erasing | .clearing _ => s.answer .refusedBusy

/-! ## The regulators' and the sensor check unit's requests -/

/-- CALIBRATE (R24). -/
def execCalibrate (tag : Byte) (motor : Word) (s : State) : Host.Outcome State Fault Refusal :=
  .next <| s.request tag 14 fun s =>
    match motorOfCode motor with
    | none => s.answer .badIndex
    | some m =>
      if (s.reg m).calibration.isSome then s.answer .refusedBusy
      else if s.running ∨ (s.link (powerLink m)).state ≠ .locked then s.answer .refusedState
      else
        (s.setReg m { s.reg m with calibration := some { count := 0, sumA := 0, sumB := 0 } }).answer .pending

/-- WIRE CHECK (R85): the check keeps N_w and min_shift as they stand at acceptance. -/
def execWireCheck (tag : Byte) (channel : Word) (s : State) : Host.Outcome State Fault Refusal :=
  .next <| s.request tag 15 fun s =>
    if h : channel.toNat < 8 then
      let c : Fin 8 := ⟨channel.toNat, h⟩
      let t := s.act.vibration.scalars
      if !s.inService c then s.answer .badIndex
      else if s.scu.wire.isSome then s.answer .refusedBusy
      else if s.linkS.state ≠ .locked ∨ s.scu.refFail then s.answer .refusedState
      else
        (s.setScu { s.scu with
          wire := some { channel := c, inject := false, count := 0, sBase := 0, sInject := 0, nW := t.nW,
                         minShift := t.minShift } }).answer .pending
    else s.answer .badIndex

/-! ## LINK CONTROL (R161) -/

/-- The result words of LINK CONTROL: state with the relock mode in bit 15, good count, error count (R161, R166). -/
def State.linkWords (s : State) (l : LinkId) : List Word :=
  let u := s.link l
  [natWord (flag (s.relockActs l) * 32768 + u.state.code), natWord u.good, natWord u.errors]

/-- A LINK CONTROL operation: the link named, the operation's effect and status, and the link as the request left it. -/
def State.linkControl (s : State) (tag : Byte) (link : Word) (op : State → LinkId → State × Status) : State :=
  s.request tag 16 fun s =>
    match linkOfCode link with
    | none => s.answer .badIndex
    | some l =>
      let p := op s l
      p.1.answer p.2 (p.1.linkWords l)

def execLinkEnable (tag : Byte) (link : Word) (s : State) : Host.Outcome State Fault Refusal :=
  .next <| s.linkControl tag link fun s l => (s.enableLink l, .done)

/-- LINK CONTROL disable: refused for the C-link, and for a P-link in RUN or HOLD (R161). -/
def State.disableRefused (s : State) : LinkId → Bool
  | .C => true
  | .A | .B => s.running
  | .S => false

def execLinkDisable (tag : Byte) (link : Word) (s : State) : Host.Outcome State Fault Refusal :=
  .next <| s.linkControl tag link fun s l =>
    if s.disableRefused l then (s, .refusedState) else (s.disableLink l, .done)

def execRelockOn (tag : Byte) (link : Word) (s : State) : Host.Outcome State Fault Refusal :=
  .next <| s.linkControl tag link fun s l => (s.setLink l { s.link l with relock := true }, .done)

def execRelockOff (tag : Byte) (link : Word) (s : State) : Host.Outcome State Fault Refusal :=
  .next <| s.linkControl tag link fun s l =>
    if l = .C then (s, .refusedState) else (s.setLink l { s.link l with relock := false }, .done)

def execRelockNow (tag : Byte) (link : Word) (s : State) : Host.Outcome State Fault Refusal :=
  .next <| s.linkControl tag link fun s l => (s.relockLink l, .done)

def execClearErrorCount (tag : Byte) (link : Word) (s : State) : Host.Outcome State Fault Refusal :=
  .next <| s.linkControl tag link fun s l => (s.setLink l { s.link l with errors := 0 }, .done)

/-! ## The management engine's own registers -/

/-- SET TIME (R176): the counter loaded, the time-set flag set, the time base restarted, so that its next step is one second away. -/
def execSetTime (tag : Byte) (hi lo : Word) (s : State) : Host.Outcome State Fault Refusal :=
  .next <| s.request tag 17 fun s =>
    let s := s.setMe { s.me with seconds := wideValue hi lo, timeSet := true }
    (s.setTime { s.time with secondTenths := 0 }).answer .done

/-- SET NOTICE MASK (R178): bits 1 to 10 are taken, the Reply carries the mask as it stood. -/
def execSetNoticeMask (tag : Byte) (mask : Word) (s : State) : Host.Outcome State Fault Refusal :=
  .next <| s.request tag 18 fun s =>
    (s.setMe { s.me with mask := mask &&& noticeMaskAll }).answer .done [s.me.mask]

/-- UNKNOWN_REQUEST (R174): a code outside 1 to 20 is answered UNKNOWN with the code echoed. A LINK CONTROL whose operation is outside
the six is answered BAD_INDEX with the link as it stands (R161). A code of the twenty is no unknown Request: that command does not
occur (log entry 6). -/
def execUnknownRequest (tag code : Byte) (params : List Word) (s : State) : Host.Outcome State Fault Refusal :=
  .next <|
    if !knownRequestCode code then s.request tag code.toNat fun s => s.answer .unknown
    else if unnamedLinkOperation code params then
      s.linkControl tag (params.getD 0 0) fun s _ => (s, .badIndex)
    else s

end Sys2Proof.Machine
end

