-- ==== Sys2Proof/Machine/TableRequests.lean ====
section
/-! DEFINITION. The table requests (R169 to R172) with the validation of a standby bank, and READ STATUS (R175). -/

namespace Sys2Proof.Machine

/-- The entry's value words, filled up to 24 (R167). -/
def entryWords (fs : List FieldSpec) (xs : List Int) : List Word := fillWords 24 (writeFields fs xs)

/-- READ ENTRY (R170): bank 0 active, 1 standby. -/
def execReadEntry (tag : Byte) (table bank index : Word) (s : State) : Host.Outcome State Fault Refusal :=
  .next <| s.request tag 2 fun s =>
    match tableOfCode table with
    | none => s.answer .badIndex
    | some t =>
      if 1 < bank.toNat then s.answer .badIndex
      else
        match (if bank.toNat = 0 then s.me.active else s.me.standby).entry t index.toNat with
        | none => s.answer .badIndex
        | some (fs, xs) => s.answer .done (entryWords fs xs)

/-- WRITE ENTRY once judged (R169): every field limited to its range, and how many were changed. -/
def State.writeEntry (s : State) (t : TableId) (index : Nat) (fs : List FieldSpec) (values : List Word) : Answer :=
  let raw := readFields fs values
  let stored := limitFields fs raw
  let changed := countChanged raw stored
  (s.setMe { s.me with standby := s.me.standby.setEntry t index stored }).answer
    (if changed = 0 then .done else .clamped) [natWord changed]

/-- WRITE ENTRY (R169). A request without its 24 value words is a frame of the wrong length, which is discarded (R153). -/
def execWriteEntry (tag : Byte) (table index : Word) (values : List Word) (s : State) : Host.Outcome State Fault Refusal :=
  .next <|
    if values.length ≠ writeEntryWords then if s.inReset then s else s.discardFrame .C
    else s.request tag 3 fun s =>
      match tableOfCode table with
      | none => s.answer .badIndex
      | some t =>
        match s.me.standby.entry t index.toNat with
        | none => s.answer .badIndex
        | some (fs, _) =>
          if s.me.pendingSwitch.get t then s.answer .refusedBusy else s.writeEntry t index.toNat fs values

/-- COPY BANK (R171). -/
def execCopyBank (tag : Byte) (table : Word) (s : State) : Host.Outcome State Fault Refusal :=
  .next <| s.request tag 4 fun s =>
    match tableOfCode table with
    | none => s.answer .badIndex
    | some t =>
      if s.me.pendingSwitch.get t then s.answer .refusedBusy
      else (s.setMe { s.me with standby := s.me.standby.take s.me.active t }).answer .done

/-! ## Validation (R172) -/

def MotorEntry.valid (e : MotorEntry) : Bool := decide (e.t1 ≤ e.t2 ∧ e.t2 ≤ e.t3 ∧ e.uLo < e.uHi)

/-- alert ≤ alarm ≤ trip in every band. -/
def ChannelEntry.valid (e : ChannelEntry) : Bool :=
  (List.finRange 4).all fun b => decide (e.alert[b] ≤ e.alarm[b] ∧ e.alarm[b] ≤ e.trip[b])

def VibrationScalars.valid (t : VibrationScalars) : Bool :=
  decide (t.vp2 < t.vp1 ∧ t.vp3 < t.vp2 ∧ t.refLo < t.refHi)

/-- The first index of a list of judged indices that offends. -/
def firstOffending : List (Nat × Bool) → Option Nat
  | [] => none
  | (n, ok) :: rest => if ok then firstOffending rest else some n

/-- The relations of a bank as a whole (R172): the lowest offending index, or none. -/
def Tables.offending (t : Tables) : TableId → Option Nat
  | .motor => firstOffending [(0, t.motor.a.valid), (1, t.motor.b.valid)]
  | .torque =>
    let p (n : Fin 8) : Nat := t.torque.bands[n].period
    firstOffending
      [(2, decide (p 2 < p 1)), (3, decide (p 3 < p 2)), (4, decide (p 4 < p 3)), (5, decide (p 5 < p 4)),
       (6, decide (p 6 < p 5)), (7, decide (p 7 < p 6)),
       (8, decide (t.torque.scalars.accRelease < t.torque.scalars.accMax))]
  | .vibration =>
    firstOffending
      ((List.finRange 8).map (fun c => (c.val, t.vibration.channels[c].valid)) ++ [(8, t.vibration.scalars.valid)])
  | .action => none
  | .line => firstOffending [(4, decide (t.line.marker.minPeriod < t.line.marker.maxPeriod))]

/-- SWITCH BANK (R172). -/
def execSwitchBank (tag : Byte) (table : Word) (s : State) : Host.Outcome State Fault Refusal :=
  .next <| s.request tag 5 fun s =>
    match tableOfCode table with
    | none => s.answer .badIndex [0]
    | some t =>
      if s.me.pendingSwitch.get t then s.answer .refusedBusy [0]
      else
        match s.me.standby.offending t with
        | some index => s.answer .badTable [natWord index]
        | none => (s.setMe { s.me with pendingSwitch := s.me.pendingSwitch.set true t }).answer .pending [0]

/-! ## READ STATUS (R175) -/

/-- Words 5–11: the acting action of five causes a word, three bits each, the lowest number in bits 2–0. -/
def State.actingWord (s : State) (i : Nat) : Word :=
  natWord (((List.finRange 31).filter fun c => c.val / 5 == i).foldl
    (fun n c => n + (s.acting c).code * 2 ^ (3 * (c.val % 5))) 0)

/-- Words 16–23: a link's relock mode, good count and state, then its error count. -/
def State.statusLinkWords (s : State) (l : LinkId) : List Word :=
  let u := s.link l
  [natWord (flag (s.relockActs l) * 32768 + u.good * 256 + u.state.code), natWord u.errors]

/-- Words 28 and 29: calibrated, calibration in flight, Samples counted. R175 does not say what the count reads with no calibration in
flight: the model answers 0, DESIGN CHOICE, log entry 38. -/
def Regulator.statusWord (r : Regulator) : Word :=
  natWord (flag r.calibrated * 32768 + flag r.calibration.isSome * 16384 + ((r.calibration.map Calibration.count).getD 0))

/-- A channel's state in four bits: 0–3, or 15 for Off. -/
def Channel.statusCode (c : Channel) : Nat :=
  match c.grade with
  | some g => g.val
  | none => 15

/-- Words 41 and 42: four channels a word, the lowest number in bits 3–0. -/
def State.channelWord (s : State) (base : Nat) : Word :=
  natWord (((List.finRange 8).filter fun c => c.val / 4 == base).foldl
    (fun n c => n + s.vm.channels[c].statusCode * 16 ^ (c.val % 4)) 0)

/-- One bit per channel. -/
def SensorCheck.bits (u : SensorCheck) (f : ChannelCheck → Bool) : Nat :=
  (List.finRange 8).foldl (fun n c => n + flag (f u.checks[c]) * 2 ^ c.val) 0

/-- The 64 result words of READ STATUS, in their order (R175). With no wire check in flight R175 does not say what the check's phase,
channel and count (words 44 and 45) read: the model answers 0, DESIGN CHOICE, log entry 38. -/
def State.statusWords (s : State) : List Word :=
  let p := s.me.pendingSwitch
  causeWords s.tu.active ++ causeWords s.tu.latched
  ++ [natWord (s.tu.drive.code * 16384 + s.tu.e.code * 2048 + s.tu.reason.code * 256 + s.tu.restart.code * 16
        + flag s.me.timeSet)]
  ++ (List.range 7).map s.actingWord
  ++ wideWords s.me.seconds
  ++ [s.me.mask,
      natWord (flag p.line * 32768 + flag p.action * 16384 + flag p.vibration * 8192 + flag p.torque * 4096
        + flag p.motor * 2048 + s.me.replies.length * 256 + s.me.low.length * 16 + s.me.high.length)]
  ++ s.statusLinkWords .C ++ s.statusLinkWords .A ++ s.statusLinkWords .B ++ s.statusLinkWords .S
  ++ [natWord (flag s.tl.latch * 32768 + flag s.rs.gathering.isSome * 256 + s.rs.queue.length * 32
        + s.rs.state.code * 4 + s.cb.state.code)]
  ++ wideWords s.rs.nextSeq
  ++ [natWord s.rs.writeSlot.val, s.regA.statusWord, s.regB.statusWord, intWord s.regA.offsetA, intWord s.regA.offsetB,
      intWord s.regB.offsetA, intWord s.regB.offsetB,
      natWord (s.mt.state.code * 256 + s.torqueBand * 16 + s.vibrationBand)]
  ++ wideWords s.mt.lastPeriod ++ wideWords s.mt.silence
  ++ [natWord (s.vm.v.val * 256 + worstCode s.worst), natWord s.vm.window, s.channelWord 0, s.channelWord 1,
      natWord (s.scu.bits ChannelCheck.wireFault * 256 + s.scu.bits ChannelCheck.flat),
      natWord (flag s.scu.refFail * 32768 + flag s.scu.wire.isSome * 16384
        + flag ((s.scu.wire.map WireCheck.inject).getD false) * 8192
        + ((s.scu.wire.map fun w => w.channel.val).getD 0)),
      natWord ((s.scu.wire.map WireCheck.count).getD 0)]
  ++ (List.finRange 8).map (fun c => natWord s.vm.channels[c].rmsLast)
  ++ (List.finRange 8).map (fun c => natWord s.vm.channels[c].peakLast)
  ++ wideWords s.tl.acc

/-- READ STATUS (R175): accepted in every state, changes nothing but the reply queue its Reply joins. -/
def execReadStatus (tag : Byte) (s : State) : Host.Outcome State Fault Refusal :=
  .next <| s.request tag 1 fun s => s.answer .done s.statusWords

end Sys2Proof.Machine
end

