-- ==== Sys2Proof/Machine/StoreEvents.lean ====
section
/-! DEFINITION. The events of the record store and the capture buffer that time brings: the end of a program, an erase, a clear or the
scan (R140 to R142, R145, R148), the gather expiry (R136) and the cadence timeout (R124). -/

namespace Sys2Proof.Machine

/-- The highest sequence number a record can carry. -/
def lastSequence : Nat := 4294967295

/-- A RECORD_STORED notice: the sequence number as its subject (R141). -/
def State.notifyStored (s : State) (seq : Nat) : State :=
  s.notify .recordStored (natWord (seq / 65536)) (natWord seq) .low

/-- A program's good verify (R141): the record stands in the array and leaves the queue, the write slot and the numbers advance, and
the next record's writing begins; the last number takes the store to FAULT. -/
def State.programGood (s : State) : State :=
  match s.rs.queue with
  | [] => s
  | r :: rest =>
    let seq := s.rs.nextSeq
    let rs := { s.rs with
      array := slotPut s.rs.writeSlot.val (.valid seq r) s.rs.array
      queue := rest
      nextSeq := if seq = lastSequence then seq else seq + 1
      writeSlot := s.rs.writeSlot + 1
      retry := false }
    let s := (s.setRs rs).notifyStored seq
    if seq = lastSequence then s.storeFault
    else s.setRs (RecordStore.writeIfIdle { s.rs with state := .idle })

/-- A program's bad verify (R142): the slot stays Invalid and the write slot advances; the first failure is written again in the next
usable slot, the second takes the store to FAULT. -/
def State.programBad (s : State) : State :=
  let rs := { s.rs with writeSlot := s.rs.writeSlot + 1 }
  if s.rs.retry then (s.setRs rs).storeFault else s.setRs (RecordStore.beginWrite { rs with retry := true })

/-- PROGRAM_COMPLETE (R141, R142). No program in progress: the event does not occur (log entry 3). -/
def execProgramComplete (good : Bool) (s : State) : Host.Outcome State Fault Refusal :=
  .next <|
    if s.inReset then s
    else
      match s.rs.state with
      | .programming => if good then s.programGood else s.programBad
      | .scanning | .idle | .erasing | .clearing _ | .fault => s

/-- ERASE_COMPLETE (R140): a good verify goes on to program the sector's first slot, a bad one takes the store to FAULT. No erase for
writing in progress: the event does not occur (log entry 3). -/
def execEraseComplete (notBlank : Word) (s : State) : Host.Outcome State Fault Refusal :=
  .next <|
    if s.inReset then s
    else
      match s.rs.state with
      | .erasing =>
        let array := endErase (sectorOf s.rs.writeSlot) notBlank s.rs.array
        if notBlank = 0 then
          s.setRs { s.rs with state := .programming, array := slotPut s.rs.writeSlot.val .invalid array }
        else (s.setRs { s.rs with array := array }).storeFault
      | .scanning | .idle | .programming | .clearing _ | .fault => s

/-- The end of a clear (R145): numbering starts again at 1 in slot 0, LOG_FAULT is cleared, LOG_ERASED is queued, a waiting record is
written. -/
def State.endClear (s : State) : State :=
  let s := s.setRs { s.rs with nextSeq := 1, writeSlot := 0, retry := false, state := .idle }
  let s := s.clearCause .logFault
  let s := s.notify .logErased 0 0 .low
  s.setRs s.rs.writeIfIdle

/-- CLEAR_SECTOR_COMPLETE (R145): the next sector, the end of the clear, or FAULT. No clear in progress: the event does not occur (log
entry 3). -/
def execClearSectorComplete (notBlank : Word) (s : State) : Host.Outcome State Fault Refusal :=
  .next <|
    if s.inReset then s
    else
      match s.rs.state with
      | .clearing sector =>
        let s := s.setRs { s.rs with array := endErase sector notBlank s.rs.array }
        if notBlank ≠ 0 then s.storeFault
        else if sector = 3 then s.endClear
        else s.setRs (s.rs.clearSector (sector + 1))
      | .scanning | .idle | .programming | .erasing | .fault => s

/-- The Valid record with the highest sequence number: its slot and that number (R148). -/
def highestValid (array : Slots ArraySlot) : Option (Nat × Nat) :=
  (newestFirst array).head?.map fun x => (x.1, x.2.1)

/-- The end of the scan at the record store (R148, steps 1 to 3). -/
def State.endScan (s : State) : State :=
  match highestValid s.rs.array with
  | none => s.setRs { s.rs with nextSeq := 1, writeSlot := 0, retry := false, state := .idle }
  | some (slot, seq) =>
    let rs := { s.rs with writeSlot := Fin.ofNat 64 (slot + 1), retry := false }
    if seq = lastSequence then (s.setRs { rs with nextSeq := seq }).storeFault
    else s.setRs { rs with nextSeq := seq + 1, state := .idle }

/-- The capture buffer at the end of the scan (R131): DISARMED enters ARMED. -/
def State.armAtScanEnd (s : State) : State :=
  if s.cb.state = .disarmed then s.setCb { s.cb with state := .armed, valid := 0, causes := [] } else s

/-- SCAN_END (R148, R131). No scan in progress: the event does not occur (log entry 3). -/
def execScanEnd (s : State) : Host.Outcome State Fault Refusal :=
  .next <|
    if s.inReset then s
    else
      match s.rs.state with
      | .scanning =>
        let s := s.endScan.armAtScanEnd
        s.setRs s.rs.writeIfIdle
      | .idle | .programming | .erasing | .clearing _ | .fault => s

/-- The next step of the gather timer brings it to 50. The timer of a bound record is stopped (R135). -/
def RecordStore.gatherDue (rs : RecordStore) : Bool :=
  match rs.gathering with
  | some g => timerDue 50 g.timer
  | none => false

/-- One millisecond step of RS's time base (R136): the clock and the gather timer step, and an unbound record whose timer the step
brings to 50 closes without a summary. -/
def RecordStore.step (rs : RecordStore) : RecordStore :=
  let next := { rs with clock := rs.clock + 1 }
  if rs.gatherDue then next.close none
  else { next with gathering := rs.gathering.map fun g => { g with timer := timerNext g.timer } }

/-- GATHER_EXPIRY (R136): the step of RS's time base that brings an unbound record's gather timer to 50. It does not occur while the
timer is stopped or further from 50 (log entry 3). -/
def execGatherExpiry (s : State) : Host.Outcome State Fault Refusal :=
  .next (if !s.inReset && s.rs.gatherDue then s.setRs s.rs.step else s)

/-- The next step of the cadence timer of a TRIGGERED capture brings it to 200 steps, 20 ms (R124). -/
def State.cadenceDue (s : State) : Bool := s.cb.state == .triggered && timerDue 200 s.cb.cadence

/-- One 0.1 ms step of the cadence timer, which runs in TRIGGERED alone: the step that brings it to 20 ms freezes the capture short,
with remaining left as it stands (R124). -/
def State.stepCadence (s : State) : State :=
  if s.cadenceDue then s.freezeAndAnnounce true
  else if s.cb.state = .triggered then s.setCb { s.cb with cadence := timerNext s.cb.cadence }
  else s

/-- CADENCE_TIMEOUT (R124): the step that brings the cadence timer to 20 ms. It does not occur out of TRIGGERED or while the timer is
further from 20 ms (log entry 3): after a period reference the timer stands at 0 and no expiry follows. -/
def execCadenceTimeout (s : State) : Host.Outcome State Fault Refusal :=
  .next (if !s.inReset && s.cadenceDue then s.stepCadence else s)

end Sys2Proof.Machine
end

