-- ==== Sys2Proof/Machine/Time.lean ====
section
/-! DEFINITION. Time: the seconds counter's time base (R176), and the 0.1 ms that passes when no command waits. The tick takes the steps
of the part's own time bases, with the expiries they bring, the marker timer's apart: its step has a row of spec/opcode_table.json and is
left to that command (log entry 2). -/

namespace Sys2Proof.Machine

/-- The next 0.1 ms of the seconds time base completes its second (R176): 10000 of them since the last step, the reset release or the
last SET TIME. -/
def State.secondDue (s : State) : Bool := decide (10000 ≤ s.time.secondTenths + 1)

/-- 0.1 ms on the seconds time base: the one that completes a second steps the counter, saturating, and a new second begins (R176). -/
def State.stepSeconds (s : State) : State :=
  if s.secondDue then
    (s.setMe { s.me with seconds := min (s.me.seconds + 1) 4294967295 }).setTime { s.time with secondTenths := 0 }
  else s.setTime { s.time with secondTenths := s.time.secondTenths + 1 }

/-- SECONDS_COUNTER_STEP (R176): the 0.1 ms that completes a second steps the counter. It does not occur while the second has longer to
run (log entry 3): after a SET TIME the next step falls one second later. -/
def execSecondsCounterStep (s : State) : Host.Outcome State Fault Refusal :=
  .next (if !s.inReset && s.secondDue then s.stepSeconds else s)

/-- The millisecond steps of RS (R136) and of TU's filters (R111), the inputs from TIN0 to TIN3 (log entries 2 and 36). -/
def State.stepMillisecond (s : State) : State := (List.finRange 4).foldl State.stepTin (s.setRs s.rs.step)

/-- 0.1 ms passes: the cadence timer and the seconds time base step, at every tenth tick the millisecond time bases of RS and TU, and the
four link timers, each with the expiry its step brings. The order among timers that expire together is the model's (log entry 2): a record
that an expiry opens reads the seconds counter after its step, and a timer that an expiry of this tick starts takes no step in it. -/
def State.tick (s : State) : State :=
  if s.inReset then s
  else
    let s := s.stepCadence.stepSeconds
    let full := decide (10 ≤ s.time.tenths + 1)
    let s := s.setTime { s.time with tenths := if full then 0 else s.time.tenths + 1 }
    let s := if full then s.stepMillisecond else s
    (((s.stepLink .C).stepLink .A).stepLink .B).stepLink .S

end Sys2Proof.Machine
end

