-- ==== Sys2Proof/Machine/Dispatch.lean ====
section
/-! DEFINITION. The dispatch: one arm per command, each one direct call of its meaning. -/

namespace Sys2Proof.Machine

def exec (i : Instr) (s : State) : Host.Outcome State Fault Refusal :=
  match i with
  | .sample m f => Sys2Proof.Machine.execSample m f s
  | .demand f => Sys2Proof.Machine.execDemand f s
  | .sweep f => Sys2Proof.Machine.execSweep f s
  | .frameDiscarded l => Sys2Proof.Machine.execFrameDiscarded l s
  | .readStatus tag => Sys2Proof.Machine.execReadStatus tag s
  | .readEntry tag table bank index => Sys2Proof.Machine.execReadEntry tag table bank index s
  | .writeEntry tag table index values => Sys2Proof.Machine.execWriteEntry tag table index values s
  | .copyBank tag table => Sys2Proof.Machine.execCopyBank tag table s
  | .switchBank tag table => Sys2Proof.Machine.execSwitchBank tag table s
  | .acknowledge tag => Sys2Proof.Machine.execAcknowledge tag s
  | .requestTrip tag => Sys2Proof.Machine.execRequestTrip tag s
  | .captureNow tag => Sys2Proof.Machine.execCaptureNow tag s
  | .captureRelease tag => Sys2Proof.Machine.execCaptureRelease tag s
  | .captureDisarm tag => Sys2Proof.Machine.execCaptureDisarm tag s
  | .readCapture tag n => Sys2Proof.Machine.execReadCapture tag n s
  | .readRecord tag form hi lo => Sys2Proof.Machine.execReadRecord tag form hi lo s
  | .eraseLog tag => Sys2Proof.Machine.execEraseLog tag s
  | .calibrate tag motor => Sys2Proof.Machine.execCalibrate tag motor s
  | .wireCheck tag channel => Sys2Proof.Machine.execWireCheck tag channel s
  | .linkEnable tag link => Sys2Proof.Machine.execLinkEnable tag link s
  | .linkDisable tag link => Sys2Proof.Machine.execLinkDisable tag link s
  | .relockOn tag link => Sys2Proof.Machine.execRelockOn tag link s
  | .relockOff tag link => Sys2Proof.Machine.execRelockOff tag link s
  | .relockNow tag link => Sys2Proof.Machine.execRelockNow tag link s
  | .clearErrorCount tag link => Sys2Proof.Machine.execClearErrorCount tag link s
  | .setTime tag hi lo => Sys2Proof.Machine.execSetTime tag hi lo s
  | .setNoticeMask tag mask => Sys2Proof.Machine.execSetNoticeMask tag mask s
  | .reset tag => Sys2Proof.Machine.execReset tag s
  | .clearRestartCause tag => Sys2Proof.Machine.execClearRestartCause tag s
  | .unknownRequest tag code params => Sys2Proof.Machine.execUnknownRequest tag code params s
  | .activeEdge e => Sys2Proof.Machine.execActiveEdge e s
  | .markerExpiry => Sys2Proof.Machine.execMarkerExpiry s
  | .silenceTimeReached => Sys2Proof.Machine.execSilenceTimeReached s
  | .tripInputChange x level => Sys2Proof.Machine.execTripInputChange x level s
  | .filteredTransition x => Sys2Proof.Machine.execFilteredTransition x s
  | .powerOnReset => Sys2Proof.Machine.execPowerOnReset s
  | .lineReset => Sys2Proof.Machine.execLineReset s
  | .resetRelease k => Sys2Proof.Machine.execResetRelease k s
  | .linkTimeout l => Sys2Proof.Machine.execLinkTimeout l s
  | .cadenceTimeout => Sys2Proof.Machine.execCadenceTimeout s
  | .gatherExpiry => Sys2Proof.Machine.execGatherExpiry s
  | .programComplete good => Sys2Proof.Machine.execProgramComplete good s
  | .eraseComplete notBlank => Sys2Proof.Machine.execEraseComplete notBlank s
  | .clearSectorComplete notBlank => Sys2Proof.Machine.execClearSectorComplete notBlank s
  | .scanEnd => Sys2Proof.Machine.execScanEnd s
  | .reportSent => Sys2Proof.Machine.execReportSent s
  | .managementFrameSent => Sys2Proof.Machine.execManagementFrameSent s
  | .markerTimerStep => Sys2Proof.Machine.execMarkerTimerStep s
  | .secondsCounterStep => Sys2Proof.Machine.execSecondsCounterStep s
  | .lossOfSupply => Sys2Proof.Machine.execLossOfSupply s
  | .controlFrameNotLocked => Sys2Proof.Machine.execControlFrameNotLocked s

end Sys2Proof.Machine
end

