-- ==== Sys2Proof/Safety.lean ====
section
/-! DEFINITION. What counts as a safe part, in the terms the statements use: the invariants of the trip unit, of the conditions behind
the causes, of the vibration watch, of the settings banks, of the numbers' ranges, of the queues and of the stores; what a cause event
may touch; and when a request is acted on. -/

namespace Sys2Proof.Machine

/-! ## The trip unit and the drive (R93, R98, R100, R104, R105, R115) -/

/-- The trip unit's data agree with each other, and the drive runs only where R100 lets it. -/
structure DriveInv (s : State) : Prop where
  /-- E is the highest acting action over both sets (R98). -/
  effective : s.tu.e = s.effective
  /-- Whenever E is Trip, the drive is TRIPPED (R100). -/
  trip : s.tu.e = .trip → s.tu.drive = .tripped
  /-- In RUN, E is below Hold (R100). -/
  run : s.tu.drive = .run → s.tu.e.atHoldOrAbove = false
  /-- In HOLD, E is Hold (R101). -/
  hold : s.tu.drive = .hold → s.tu.e = .hold
  /-- The drive runs only with both P-links LOCKED, both motors calibrated and no calibration in flight (R100). -/
  ready : s.running = true →
    s.powerLinksLocked = true ∧ s.regA.calibrated = true ∧ s.regB.calibrated = true ∧ s.calibrating = false
  /-- TOUT is asserted exactly when the drive is TRIPPED or a reset is held (R115). -/
  tout : s.tu.tout = (decide (s.tu.drive = .tripped) || s.inReset)
  /-- A reset held means a TRIPPED drive (R118). -/
  reset : s.inReset = true → s.tu.drive = .tripped
  /-- An event cause is never in the active set (R93). -/
  events : ∀ c, s.isEvent c = true → s.tu.active.has c = false
  /-- Out of RUN and HOLD the run-only causes are not active and the imbalance counters are 0 (R44, R104, R105). -/
  idle : s.running = false → s.tu.active.has .imbalance = false ∧ s.tu.active.has .stall = false ∧
    s.tu.active.has .markerLost = false ∧ s.tl.upRun = 0 ∧ s.tl.downRun = 0

/-! ## Level causes and the conditions behind them -/

/-- A level cause that one block raises and clears is active exactly while that block's condition holds. -/
structure ConditionInv (s : State) : Prop where
  /-- R74. -/
  vibAlert : s.tu.active.has .vibAlert = decide (1 ≤ s.vm.v.val)
  vibAlarm : s.tu.active.has .vibAlarm = decide (2 ≤ s.vm.v.val)
  vibTrip : s.tu.active.has .vibTrip = decide (s.vm.v.val = 3)
  /-- R81. -/
  sensorRef : s.tu.active.has .sensorRef = s.scu.refFail
  /-- R84. -/
  sensorFlat : s.tu.active.has .sensorFlat = s.scu.anyFlat
  /-- R41. -/
  overload : s.tu.active.has .overload = s.tl.latch
  /-- R55. -/
  markerLost : s.tu.active.has .markerLost = s.markerLostHolds
  /-- R112: a level-sense input's cause is active while its filtered level is the active level. -/
  tin : ∀ x, (s.tinEntry x).sense.isEdge = false →
    s.tu.active.has (.tin x) = (s.tinEntry x).sense.activeAt s.tu.tin[x].filtered
  /-- R156: a LOST link's cause is active, a LOCKED link's is not. -/
  linkLost : ∀ l c, Cause.linkLost l = some c → (s.link l).state = .lost → s.tu.active.has c = true
  linkLocked : ∀ l c, Cause.linkLost l = some c → (s.link l).state = .locked → s.tu.active.has c = false
  /-- R143, R145: FAULT keeps LOG_FAULT active, and only FAULT and the clear that leaves it do. -/
  fault : s.rs.state = .fault → s.tu.active.has .logFault = true
  noFault : s.tu.active.has .logFault = true → s.rs.state = .fault ∨ ∃ k, s.rs.state = .clearing k

/-! ## The vibration watch (R63, R72, R85, R90) -/

/-- Channels, V, the wire check and the test bits agree. -/
structure VibrationInv (s : State) : Prop where
  /-- A channel has a state exactly while it is in service (R63). -/
  service : ∀ c : Fin 8, s.vm.channels[c].grade.isSome = s.inService c
  /-- A channel out of service holds nothing but its mean (R63). -/
  off : ∀ c : Fin 8, s.inService c = false → s.vm.channels[c] = { channelReset with mean := s.vm.channels[c].mean }
  /-- V is the highest state in service (R72). -/
  v : s.vm.v = s.highestGrade
  /-- The window counter is below 2^w. -/
  window : s.vm.window < 2 ^ s.act.vibration.scalars.w
  /-- The only test bit set is that of a check in its Inject phase. -/
  bits : s.scu.testBits = match s.scu.wire with
    | some w => if w.inject then testBit w.channel else 0
    | none => 0
  /-- A wire check in flight has its channel in service, the S-link LOCKED and ref-fail clear (R85, R90). -/
  wire : ∀ w, s.scu.wire = some w → s.inService w.channel = true ∧ s.linkS.state = .locked ∧ s.scu.refFail = false
  /-- A channel out of service is not flat (R91). -/
  flat : ∀ c : Fin 8, s.inService c = false → s.scu.checks[c].flat = false ∧ s.scu.checks[c].flatRun = 0

/-! ## The settings banks (R168, R169, R172) -/

/-- The five tables. -/
def allTables : List TableId := [.motor, .torque, .vibration, .action, .line]

/-- Every field of every entry of a bank is what its limits leave it (R169). No table has an index above 30. -/
def Tables.limited (b : Tables) : Bool :=
  allTables.all fun t => (List.range 31).all fun i =>
    match b.entry t i with
    | some (fs, xs) => limitFields fs xs == xs
    | none => true

/-- What SWITCH BANK judged stays so: the active bank, and a standby bank whose switch is pending, pass validation, and both banks keep
their fields in their ranges. -/
structure BankInv (s : State) : Prop where
  active : ∀ t, s.me.active.offending t = none
  waiting : ∀ t, s.me.pendingSwitch.get t = true → s.me.standby.offending t = none
  activeLimited : s.me.active.limited = true
  standbyLimited : s.me.standby.limited = true

/-! ## Ranges of the numbers (the state tables of chapters 01 to 06, 09, 10) -/

/-- One regulator's numbers in their ranges, the integrators by R22. -/
structure RegulatorRange (r : Regulator) (e : MotorEntry) : Prop where
  offsets : r.offsetA.natAbs ≤ 4095 ∧ r.offsetB.natAbs ≤ 4095
  age : r.age ≤ 255
  measured : r.idMeas.natAbs ≤ 32767 ∧ r.iqMeas.natAbs ≤ 32767
  udc : r.udcLast ≤ 65535
  temp : r.tempLast.natAbs ≤ 32767
  factor : r.ft ≤ 32767
  integrators : r.intD.natAbs ≤ e.mceil * 65536 ∧ r.intQ.natAbs ≤ e.mceil * 65536
  /-- At most 255 Samples counted, each adding at most 32767 to a sum (R25). -/
  sums : ∀ k, r.calibration = some k →
    k.count ≤ 255 ∧ k.sumA.natAbs ≤ k.count * 32767 ∧ k.sumB.natAbs ≤ k.count * 32767

/-- A limited-demand record in its ranges: |iq| within the limit stored with it (R34, R35). -/
structure DemandRange (d : LimitedDemand) : Prop where
  id : d.id.natAbs ≤ 32767
  iq : d.iq.natAbs ≤ d.limit
  limit : d.limit ≤ 32767
  dtheta : d.dtheta.natAbs ≤ 32767

/-- One vibration channel's numbers in their ranges (Monitor state). The sum of squares is that of the Sweeps of the present window,
each adding at most 32767 × 32767 (R65, R66), so below 4096 Sweeps it is below the table's bound. -/
structure ChannelRange (c : Channel) (window : Nat) : Prop where
  /-- The running mean stays within the reach of the channel values (R65). -/
  mean : c.mean.natAbs ≤ 32767 * 65536
  sum : c.sum ≤ window * (32767 * 32767)
  peaks : c.peak ≤ 32767 ∧ c.peakLast ≤ 32767
  rms : c.rmsLast ≤ 32767
  up : c.upCount ≤ 8 ∧ 1 ≤ c.upLowest.val
  down : c.downCount ≤ 8

/-- One channel's flat run in its range: a run that has not set the flag has not reached flat_count, which is at most 255 (R83). -/
structure CheckRange (k : ChannelCheck) : Prop where
  run : k.flatRun ≤ 255
  clear : k.flat = false → k.flatRun ≤ 254

/-- A wire check in flight (R85 to R87): fewer than N_w Sweeps counted in its phase, each adding at most 32767 to its sum. -/
structure WireRange (w : WireCheck) : Prop where
  nW : 8 ≤ w.nW ∧ w.nW ≤ 256
  minShift : w.minShift ≤ 65534
  count : w.count < w.nW
  base : w.sBase.natAbs ≤ (if w.inject then w.nW else w.count) * 32767
  inject : w.sInject.natAbs ≤ (if w.inject then w.count else 0) * 32767

/-- One link unit's numbers in their ranges (Link unit state), its timer running in LOCKING, LOCKED and LOST alone (R155). A timer
stays below the greatest timeout a LINE bank can hold. -/
structure LinkRange (u : LinkUnit) : Prop where
  good : u.good ≤ 48
  errors : u.errors ≤ 65535
  runs : u.timer.isSome = true ↔ u.state = .locking ∨ u.state = .locked ∨ u.state = .lost
  timer : ∀ n, u.timer = some n → n < 65535

/-- The numbers of every block in the ranges of its state table. -/
structure RangeInv (s : State) : Prop where
  regA : RegulatorRange s.regA (s.act.motorEntry .A)
  regB : RegulatorRange s.regB (s.act.motorEntry .B)
  ldA : DemandRange s.tl.ldA
  ldB : DemandRange s.tl.ldB
  h : s.tl.h ≤ 32767
  acc : s.tl.acc ≤ 2000000000
  runs : s.tl.upRun ≤ 65535 ∧ s.tl.downRun ≤ 65535
  /-- The counter is cleared at max_period, and the silence time saturates there (R51, R53). -/
  counter : s.mt.counter < s.act.line.marker.maxPeriod
  silence : s.mt.silence ≤ s.act.line.marker.maxPeriod
  lastPeriod : s.mt.lastPeriod ≤ 1048575
  stable : ∀ x : Fin 4, s.tu.tin[x].stable ≤ 1000
  links : ∀ l, LinkRange (s.link l)
  channels : ∀ c : Fin 8, ChannelRange s.vm.channels[c] s.vm.window
  /-- Both runs of the reference check are 0 to 3 (R81). -/
  reference : s.scu.outRun ≤ 3 ∧ s.scu.inRun ≤ 3
  checks : ∀ c : Fin 8, CheckRange s.scu.checks[c]
  wire : ∀ w, s.scu.wire = some w → WireRange w
  /-- The cadence timer expires at 200 steps (R124). -/
  cadence : ∀ n, s.cb.cadence = some n → n < 200
  /-- The gather timer expires at 50 steps (R136). -/
  gather : ∀ g n, s.rs.gathering = some g → g.timer = some n → n < 50
  /-- The model's own phases (log entry 2). -/
  time : s.time.tenths ≤ 9 ∧ s.time.secondTenths ≤ 9999
  seconds : s.me.seconds ≤ 4294967295
  /-- The notice mask has the bits of the ten kinds alone (R178). -/
  mask : s.me.mask &&& noticeMaskAll = s.me.mask

/-! ## Queues (chapters 07, 08 and 10) -/

/-- A record's cause list and further count in their ranges (R134, R138). -/
def Record.bounded (r : Record) : Prop := r.causes.length ≤ 8 ∧ r.further ≤ 255

/-- No queue holds more than the manual gives it, and the capture's items agree with its state. -/
structure QueueInv (s : State) : Prop where
  replies : s.me.replies.length ≤ 4
  high : s.me.high.length ≤ 8
  low : s.me.low.length ≤ 8
  records : s.rs.queue.length ≤ 4
  recordLists : ∀ r ∈ s.rs.queue, r.bounded
  gatheringList : ∀ g, s.rs.gathering = some g → g.record.bounded
  causes : s.cb.causes.length ≤ 4
  valid : s.cb.valid ≤ 256
  remaining : s.cb.remaining ≤ 255
  /-- TRIGGERED is the state with snapshots still to come and the cadence timer running (R122 to R125). -/
  triggered : s.cb.state = .triggered ↔ s.cb.cadence.isSome = true
  toCome : s.cb.state = .triggered → 1 ≤ s.cb.remaining
  headed : s.cb.state = .triggered ∨ s.cb.state = .frozen → s.cb.causes ≠ []
  /-- A record is bound only to a capture that is running (R135, R137), and its gather timer is stopped. -/
  bound : ∀ g, s.rs.gathering = some g → (g.bound = true → s.cb.state = .triggered) ∧ (g.bound = g.timer.isNone)

/-! ## Notices of one event (R177) -/

/-- From one queue to the later one a notice of `n`'s kind has joined, and it alone of that kind: behind what the queue held of the kind
stands `n`, whose overflow flag a later loss may have set. Where the queue was full `n` is lost, and the tail of the full queue says
so. -/
def Announced (before later : List Notice) (n : Notice) : Prop :=
  (∃ b, later.filter (fun x => x.kind == n.kind) = before.filter (fun x => x.kind == n.kind) ++ [{ n with overflow := b }]) ∨
  (8 ≤ later.length ∧ ∃ last, later.getLast? = some last ∧ last.overflow = true)

/-! ## Stores (R119, R132, R139, R141) -/

/-- A numbered store in its one form, with numbers below `n`. -/
def Slots.Ok {α : Type} (n : Nat) (x : Slots α) : Prop := slotsOk x = true ∧ ∀ p ∈ x, p.1 < n

/-- The snapshot ring and the record array in their forms; every valid snapshot has been written; what the array holds agrees with the
store state. -/
structure StoreInv (s : State) : Prop where
  ring : Slots.Ok 256 s.cb.slots
  array : Slots.Ok 64 s.rs.array
  /-- A valid slot holds a snapshot, never a value that was not written (R119). -/
  written : ∀ n, n < s.cb.valid → (slotAt (s.cb.validSlot n) s.cb.slots).isSome = true
  /-- IDLE means an empty pending queue (R139). -/
  idle : s.rs.state = .idle → s.rs.queue = []
  /-- The slot being programmed is not Blank and not Valid, and a record waits at the head of the queue (R132, R139). -/
  programming : s.rs.state = .programming →
    s.rs.queue ≠ [] ∧ slotAt s.rs.writeSlot.val s.rs.array = some .invalid
  /-- The sector being erased is the one the write slot begins, and none of its slots reads Valid (R132, R139). -/
  erasing : s.rs.state = .erasing → s.rs.queue ≠ [] ∧ beginsSector s.rs.writeSlot = true ∧
    ∀ n ∈ sectorSlots (sectorOf s.rs.writeSlot), slotAt n s.rs.array = some .invalid
  /-- A clear has left the sectors before the present one Blank, and none of the present one's slots reads Valid (R145). -/
  clearing : ∀ k, s.rs.state = .clearing k →
    (∀ n ∈ sectorSlots k, slotAt n s.rs.array = some .invalid) ∧
    ∀ j : Fin 4, j < k → ∀ n ∈ sectorSlots j, slotAt n s.rs.array = none
  /-- Valid records have distinct sequence numbers (R141). -/
  distinct : ∀ i j q r r', slotAt i s.rs.array = some (.valid q r) → slotAt j s.rs.array = some (.valid q r') → i = j
  /-- No stored number is beyond the last, and next sequence is within its range. -/
  numbers : ∀ i q r, slotAt i s.rs.array = some (.valid q r) → 1 ≤ q ∧ q ≤ lastSequence
  next : 1 ≤ s.rs.nextSeq ∧ s.rs.nextSeq ≤ lastSequence
  /-- While the store may write, next sequence is above every stored number (R141, R148). -/
  fresh : s.rs.state = .idle ∨ s.rs.state = .programming ∨ s.rs.state = .erasing →
    ∀ i q r, slotAt i s.rs.array = some (.valid q r) → q < s.rs.nextSeq
  /-- Stored records are in their ranges. -/
  records : ∀ i q r, slotAt i s.rs.array = some (.valid q r) → r.bounded

/-! ## What a cause event may touch (R96, R97) -/

/-- From `s` to `t` only what a raise, a clear or a drive transition other than a start may change: the two sets, E, the drive state and
TOUT; the integrators; the imbalance counters; the notice queues; the capture's course; the record store's gathering and writing. -/
structure CauseFrame (s t : State) : Prop where
  supply : t.supply = s.supply
  held : t.held = s.held
  pins : t.pins = s.pins
  regA : t.regA = { s.regA with intD := t.regA.intD, intQ := t.regA.intQ }
  regB : t.regB = { s.regB with intD := t.regB.intD, intQ := t.regB.intQ }
  tl : t.tl = { s.tl with upRun := t.tl.upRun, downRun := t.tl.downRun }
  mt : t.mt = s.mt
  vm : t.vm = s.vm
  scu : t.scu = s.scu
  tu : t.tu = { s.tu with
    active := t.tu.active, latched := t.tu.latched, e := t.tu.e, drive := t.tu.drive, tout := t.tu.tout }
  cb : t.cb = { s.cb with
    state := t.cb.state, remaining := t.cb.remaining, causes := t.cb.causes, short := t.cb.short, cadence := t.cb.cadence }
  rs : t.rs = { s.rs with
    array := t.rs.array, state := t.rs.state, gathering := t.rs.gathering, queue := t.rs.queue, writeSlot := t.rs.writeSlot }
  linkC : t.linkC = s.linkC
  linkA : t.linkA = s.linkA
  linkB : t.linkB = s.linkB
  linkS : t.linkS = s.linkS
  up : t.up = s.up
  me : t.me = { s.me with high := t.me.high, low := t.me.low }
  time : t.time = s.time
  draws : t.draws = s.draws
  sent : t.sent = s.sent
  pending : t.pending = s.pending

/-! ## Resets (R27, R49, R59, R80, R92, R118, R131, R150, R163, R179) -/

/-- Every block holds its reset values; the array, the pins, the lines and the queue of commands are no block's registers. -/
structure BlocksReset (s : State) : Prop where
  regA : s.regA = regulatorReset
  regB : s.regB = regulatorReset
  tl : s.tl = limiterReset
  mt : s.mt = markerReset
  vm : s.vm = vibrationReset
  scu : s.scu = sensorReset
  /-- The sets, E, the drive and TOUT as R118 gives them; the raw levels are read again at the release. -/
  tu : s.tu.active = 0 ∧ s.tu.latched = restartOnly ∧ s.tu.e = .trip ∧ s.tu.drive = .tripped ∧ s.tu.reason = .none ∧
    s.tu.tout = true
  filters : ∀ x : Fin 4, s.tu.tin[x].filtered = .high ∧ s.tu.tin[x].stable = 0
  cb : s.cb = captureReset
  rs : s.rs = recordStoreReset s.rs.array
  links : ∀ l, s.link l = linkReset
  up : s.up = upstreamReset
  me : s.me = managementReset
  time : s.time = timeReset

/-- While a reset is held, or without supply, every block is at its reset values (R116). -/
def HeldInv (s : State) : Prop := s.inReset = true → BlocksReset s

/-- What a reset leaves of the array (R149): a slot whose programming was cut short reads Invalid, a sector whose erase was cut short a
mix of Invalid and Blank, and every other slot what it read before. -/
def CutArray (rs : RecordStore) (after : Slots ArraySlot) : Prop :=
  match rs.state with
  | .scanning | .idle | .fault => after = rs.array
  | .programming =>
    ∀ n, slotAt n after = if n = rs.writeSlot.val then some .invalid else slotAt n rs.array
  | .erasing =>
    ∀ n, if n ∈ sectorSlots (sectorOf rs.writeSlot) then slotAt n after = none ∨ slotAt n after = some .invalid
      else slotAt n after = slotAt n rs.array
  | .clearing k =>
    ∀ n, if n ∈ sectorSlots k then slotAt n after = none ∨ slotAt n after = some .invalid
      else slotAt n after = slotAt n rs.array

/-- The part right after the release of a reset, from the state in which the reset was held (R111, R118, R150): the raw levels read from
the pins, RESTART raised, its record gathering and its notice queued. -/
def State.afterRelease (s : State) : State :=
  { s with
    held := { powerOn := false, line := false }
    tu := tripUnitReset s.pins.tin s.tu.restart
    rs := { s.rs with gathering := some { record := restartRecord s.tu.restart, timer := some 0, bound := false } }
    me := { s.me with high := [restartNotice] } }

/-- The four commands by which a reset begins or the supply goes; a RESET request is one where it is accepted. -/
def Instr.isReset : Instr → Bool
  | .powerOnReset | .lineReset | .lossOfSupply | .reset _ => true
  | _ => false

/-! ## Frames (R153) -/

/-- The parameter words of a Request of each code (R166). -/
def requestParams (code : Nat) : Nat :=
  match code with
  | 2 | 12 => 3
  | 3 => 26
  | 16 | 17 => 2
  | 4 | 5 | 11 | 14 | 15 | 18 => 1
  | _ => 0

/-- The last two tests of R153: the kind is one the link carries towards the part, and the length, in the header and in words, is the
kind's. -/
def FrameFits (l : LinkId) (kind declared : Nat) (payload : List Word) : Prop :=
  match l, kind with
  | .C, 1 => declared = 9 ∧ payload.length = 9
  | .C, 2 =>
    ∃ w params, payload = w :: params ∧
      (knownRequestCode (loByte w) = true →
        declared = payload.length ∧ params.length = requestParams (loByte w).toNat)
  | .A, 6 | .B, 6 => declared = 6 ∧ payload.length = 6
  | .S, 8 =>
    ∃ q e rest, payload = q :: e :: rest ∧ declared = payload.length ∧
      (e.extractLsb' 0 4).toNat ∈ [2, 4, 6, 8] ∧ payload.length = (e.extractLsb' 0 4).toNat + 3
  | _, _ => False

/-! ## Tables (R167) -/

/-- How many entries each table has. -/
def tableEntries : TableId → Nat
  | .motor => 2
  | .torque => 9
  | .vibration => 9
  | .action => 31
  | .line => 10

/-! ## Requests (R159, R174) -/

/-- A Request is acted on: the part is out of reset, the C-link is LOCKED and fewer than four Replies wait. -/
def State.ready (s : State) : Prop := s.inReset = false ∧ s.linkC.state = .locked ∧ s.me.replies.length < 4

/-- The C-link with its timeout timer restarted by a good frame (R155). -/
def State.heardC (s : State) : State := s.setLinkC { s.linkC with timer := some 0 }

/-- One Reply joined to the reply queue. -/
def State.withReply (s : State) (tag code : Byte) (status : Status) (result : List Word) : State :=
  s.setMe { s.me with replies := s.me.replies ++ [{ tag := tag, code := code, status := status, result := result }] }

/-- The tag and the code of a Request; `none` for a command that is no Request, or one no frame can carry. -/
def requestOf : Instr → Option (Byte × Byte)
  | .readStatus tag => some (tag, 1)
  | .readEntry tag _ _ _ => some (tag, 2)
  | .writeEntry tag _ _ values => if values.length = writeEntryWords then some (tag, 3) else none
  | .copyBank tag _ => some (tag, 4)
  | .switchBank tag _ => some (tag, 5)
  | .acknowledge tag => some (tag, 6)
  | .requestTrip tag => some (tag, 7)
  | .captureNow tag => some (tag, 8)
  | .captureRelease tag => some (tag, 9)
  | .captureDisarm tag => some (tag, 10)
  | .readCapture tag _ => some (tag, 11)
  | .readRecord tag _ _ _ => some (tag, 12)
  | .eraseLog tag => some (tag, 13)
  | .calibrate tag _ => some (tag, 14)
  | .wireCheck tag _ => some (tag, 15)
  | .linkEnable tag _ | .linkDisable tag _ | .relockOn tag _ | .relockOff tag _ | .relockNow tag _
  | .clearErrorCount tag _ => some (tag, 16)
  | .setTime tag _ _ => some (tag, 17)
  | .setNoticeMask tag _ => some (tag, 18)
  | .reset tag => some (tag, 19)
  | .clearRestartCause tag => some (tag, 20)
  | .unknownRequest tag code params =>
    if !knownRequestCode code || unnamedLinkOperation code params then some (tag, code) else none
  | .sample _ _ | .demand _ | .sweep _ | .frameDiscarded _ | .activeEdge _ | .markerExpiry | .silenceTimeReached
  | .tripInputChange _ _ | .filteredTransition _ | .powerOnReset | .lineReset | .resetRelease _ | .linkTimeout _
  | .cadenceTimeout | .gatherExpiry | .programComplete _ | .eraseComplete _ | .clearSectorComplete _ | .scanEnd
  | .reportSent | .managementFrameSent | .markerTimerStep | .secondsCounterStep | .lossOfSupply
  | .controlFrameNotLocked => none

end Sys2Proof.Machine
end

