-- ==== Sys2Proof/Certificates/Slice0/Obligations.lean ====
section
/-! DEFINITION. The statements for the provers, each a proposition about the model. A docstring names the rules of spec/ that a
statement formalises, and says where a clause is the model's choice, with its log entry. -/

section

open Sys2Proof Sys2Proof.Machine

/-! ## The step -/

/-- A step runs the command at the front of the queue on the state with the queue's rest. -/
def Obligations.StepRunsFrontCommand : Prop :=
  ∀ (c : Instr) (rest : List Instr) (s : State),
    s.pending = c :: rest → step s = exec c { s with pending := rest }

/-- With no command waiting, 0.1 ms passes (log entry 2, the model's choice of the tick and of the order in it). The seconds time base
steps, and at the end of its second the seconds counter, which saturates (R176). Every running link timer steps, and one that the step
brings to its timeout expires (R154 to R156); the cadence timer of a TRIGGERED capture steps, and at 200 freezes it short (R124); at every
tenth tick the four filters step, with the filtered transition of an input whose stable time the step brings to min_duration (R111 to R113),
and the record store's time base, where an unbound record closes at 50 (R136). With nothing due only the timers, the time bases and the
seconds counter move. The marker timer waits for its commands. While a reset is held, or without supply (log entry 11), nothing moves at
all. -/
def Obligations.IdleStepMovesTimersOnly : Prop :=
  ∀ s : State, s.pending = [] →
    ∃ t, step s = .next t ∧ (s.inReset = true → t = s) ∧
      (s.inReset = false →
        let ms := decide (9 ≤ s.time.tenths)
        let second := decide (9999 ≤ s.time.secondTenths)
        let due (limit : Nat) (timer : Option Nat) : Prop := ∃ n, timer = some n ∧ limit ≤ n + 1
        let linkDue (l : LinkId) : Prop := due (s.act.linkEntry l).timeout (s.link l).timer
        let freezes : Prop := s.cb.state = .triggered ∧ due 200 s.cb.cadence
        let moves (x : Fin 4) : Prop :=
          ms = true ∧ s.tu.tin[x].raw ≠ s.tu.tin[x].filtered ∧ (s.act.line.tin[x]).minDuration ≤ s.tu.tin[x].stable + 1
        let closes : Prop := ms = true ∧ ∃ g, s.rs.gathering = some g ∧ due 50 g.timer
        let stable (x : Fin 4) : Nat := if ms then min (s.tu.tin[x].stable + 1) 1000 else s.tu.tin[x].stable
        t.time =
          { tenths := if ms then 0 else s.time.tenths + 1, secondTenths := if second then 0 else s.time.secondTenths + 1 } ∧
        t.me.seconds = (if second then min (s.me.seconds + 1) 4294967295 else s.me.seconds) ∧
        (∀ l, ¬ linkDue l → t.link l = { s.link l with timer := (s.link l).timer.map (· + 1) }) ∧
        (∀ l, linkDue l →
          t.link l = (match (s.link l).state with
            | .locking => { s.link l with state := .searching, good := 0, timer := none }
            | .locked => { s.link l with state := .lost, good := 0, timer := some 0 }
            | .lost =>
              if l = .C ∨ (s.link l).relock = true then { s.link l with state := .searching, good := 0, timer := none }
              else { s.link l with good := 0, timer := some 0 }
            | .down | .searching => s.link l) ∧
          ((s.link l).state = .locked → ∀ c, Cause.linkLost l = some c → t.tu.active.has c = true)) ∧
        (freezes → t.cb.state = .frozen ∧ t.cb.short = true ∧ t.cb.remaining = s.cb.remaining ∧ t.cb.cadence = none) ∧
        (¬ freezes → s.cb.state = .triggered →
          t.cb.state = .triggered ∧ t.cb.remaining = s.cb.remaining ∧ t.cb.cadence = s.cb.cadence.map (· + 1)) ∧
        (∀ x, ¬ moves x → t.tu.tin[x] = { s.tu.tin[x] with stable := stable x }) ∧
        (∀ x, moves x →
          t.tu.tin[x] = { raw := s.tu.tin[x].raw, filtered := s.tu.tin[x].raw, stable := stable x } ∧
          ((s.act.line.tin[x]).sense = .levelLow → t.tu.active.has (.tin x) = decide (s.tu.tin[x].raw = .low)) ∧
          ((s.act.line.tin[x]).sense = .levelHigh → t.tu.active.has (.tin x) = decide (s.tu.tin[x].raw = .high)) ∧
          ((s.act.line.tin[x]).sense = .bothEdges ∨
              ((s.act.line.tin[x]).sense = .falling ∧ s.tu.tin[x].raw = .low) ∨
              ((s.act.line.tin[x]).sense = .rising ∧ s.tu.tin[x].raw = .high) →
            t.tu.latched.has (.tin x) = true)) ∧
        t.rs.clock = (if ms then s.rs.clock + 1 else s.rs.clock) ∧
        (closes → (∀ x, ¬ moves x) → (∀ l, ¬ linkDue l) → t.rs.gathering = none) ∧
        t.mt = s.mt ∧ t.pins = s.pins ∧ t.held = s.held ∧ t.supply = s.supply ∧ t.sent = s.sent ∧ t.draws = s.draws ∧
        t.me = { s.me with high := t.me.high, low := t.me.low, seconds := t.me.seconds } ∧ t.pending = [] ∧
        (¬ freezes → ¬ closes → (∀ x, ¬ moves x) → (∀ l, ¬ linkDue l) →
          t = { s with
            linkC := t.linkC
            linkA := t.linkA
            linkB := t.linkB
            linkS := t.linkS
            tu := { s.tu with tin := t.tu.tin }
            cb := { s.cb with cadence := t.cb.cadence }
            rs := { s.rs with
              clock := t.rs.clock
              gathering := if ms then s.rs.gathering.map fun g => { g with timer := g.timer.map (· + 1) }
                else s.rs.gathering }
            me := { s.me with seconds := t.me.seconds }
            time := t.time } ∧
          (s.cb.state ≠ .triggered → t.cb = s.cb)))

/-! ## Frames -/

/-- Decode of encode: the frame of a well-formed command, as R151, R152 and R166 lay it out, is read as that command. -/
def Obligations.FramesDecodeBack : Prop :=
  ∀ (i : Instr) (l : LinkId) (f : LineFrame),
    i.wellFormed = true → encodeFrame i = some (l, f) → decodeFrame l f = some i ∧ receiveFrame l f = i

/-- The four tests of R153: a frame is discarded exactly when it was cut short, its check word fails, its kind is not one the link
carries towards the part, or its length is not the kind's. That the header's length field must agree too is log entry 7. -/
def Obligations.FramesAreJudgedByFourTests : Prop :=
  ∀ (l : LinkId) (f : LineFrame),
    receiveFrame l f = .frameDiscarded l ↔
      ¬ (f.ragged = false ∧ ∃ header payload check, f.words = header :: (payload ++ [check]) ∧
          checkWord (header :: payload) = check ∧
          FrameFits l (hiByte header).toNat (loByte header).toNat payload)

/-- The words of the frames the part sends (R166), field by field: Report, Modulation, Sweep Order, Reply and Notice, and the record of a
READ RECORD reply, for values in their ranges; with the header before them and the check word behind (R151, R152). Bits that no table names
are 0; so are the short flag without a summary and the restart cause code without a restart cause set (the model's choice, log entry 39). -/
def Obligations.SentFramesAreLaidOut : Prop :=
  let at_ (ws : List Word) (n : Nat) : Word := ws.getD n 0
  let bits (ws : List Word) (n hi lo : Nat) : Nat := (at_ ws n).toNat / 2 ^ lo % 2 ^ (hi + 1 - lo)
  let wide (ws : List Word) (n : Nat) : Nat := (at_ ws n).toNat * 65536 + (at_ ws (n + 1)).toNat
  let drive : DriveState → Nat := fun x => match x with
    | .stopped => 0
    | .run => 1
    | .hold => 2
    | .tripped => 3
  let action : Action → Nat := fun x => match x with
    | .ignore => 0
    | .notice => 1
    | .derate => 2
    | .hold => 3
    | .trip => 4
  let marker : MarkerState → Nat := fun x => match x with
    | .lost => 0
    | .acquiring => 1
    | .tracking => 2
  let reason : StartReason → Nat := fun x => match x with
    | .none => 0
    | .calibrating => 1
    | .notCalibrated => 2
    | .linkNotLocked => 3
    | .actionAtHoldOrAbove => 4
    | .noRisingEdge => 5
  let status : Status → Nat := fun x => match x with
    | .done => 0
    | .clamped => 1
    | .pending => 2
    | .refusedState => 3
    | .refusedBusy => 4
    | .badIndex => 5
    | .badTable => 6
    | .unknown => 7
  let kind : NoticeKind → Nat := fun x => match x with
    | .causeRaised => 1
    | .causeCleared => 2
    | .driveState => 3
    | .tableSwitched => 4
    | .captureFrozen => 5
    | .recordStored => 6
    | .logErased => 7
    | .calDone => 8
    | .wireDone => 9
    | .linkState => 10
  let worst (x : Option (Fin 8)) : Nat := (x.map Fin.val).getD 15
  let fits (m : MotorReading) : Prop :=
    m.iqLimited.natAbs ≤ 32767 ∧ m.idMeas.natAbs ≤ 32767 ∧ m.iqMeas.natAbs ≤ 32767 ∧ m.udc ≤ 65535 ∧ m.temp.natAbs ≤ 32767
  let motor (ws : List Word) (n : Nat) (m : MotorReading) : Prop :=
    (at_ ws n).toInt = m.iqLimited ∧ (at_ ws (n + 1)).toInt = m.idMeas ∧ (at_ ws (n + 2)).toInt = m.iqMeas ∧
    (at_ ws (n + 3)).toNat = m.udc ∧ (at_ ws (n + 4)).toInt = m.temp
  (∀ r : Report, fits r.a → fits r.b → r.band ≤ 7 → r.waiting ≤ 16 → r.lastPeriod ≤ 1048575 → r.limitA ≤ 32767 →
    r.limitB ≤ 32767 → r.h ≤ 32767 →
    let ws := r.words
    ws.length = 22 ∧ bits ws 0 15 8 = r.seq.toNat ∧ bits ws 0 7 6 = drive r.drive ∧ bits ws 0 5 3 = action r.e ∧
    bits ws 0 2 0 = reason r.reason ∧ (at_ ws 1).getLsbD 15 = r.dropped ∧ bits ws 1 14 13 = marker r.marker ∧
    bits ws 1 12 10 = r.band ∧ bits ws 1 9 8 = r.v.val ∧ bits ws 1 7 4 = worst r.worst ∧ bits ws 1 3 0 = 0 ∧
    (at_ ws 2).toNat = r.waiting ∧ wide ws 3 = r.lastPeriod ∧ motor ws 5 r.a ∧ (at_ ws 10).toNat = r.limitA ∧
    motor ws 11 r.b ∧ (at_ ws 16).toNat = r.limitB ∧ (at_ ws 17).toNat = r.h ∧
    (∀ c : Cause, (wide ws 18).testBit c.val = r.active.has c ∧ (wide ws 20).testBit c.val = r.latched.has c) ∧
    wide ws 18 < 2 ^ 31 ∧ wide ws 20 < 2 ^ 31) ∧
  (∀ f : Modulation, f.va.natAbs ≤ 32767 → f.vb.natAbs ≤ 32767 →
    let ws := f.words
    ws.length = 4 ∧ at_ ws 0 = f.seq ∧ at_ ws 1 = (if f.gate then 1 else 0) ∧ (at_ ws 2).toInt = f.va ∧
    (at_ ws 3).toInt = f.vb) ∧
  (∀ f : SweepOrder, f.group ≤ 8 →
    f.words.length = 1 ∧ bits f.words 0 15 8 = f.testBits.toNat ∧ bits f.words 0 7 4 = 0 ∧ bits f.words 0 3 0 = f.group) ∧
  (∀ r : Reply,
    r.words.length = 2 + r.result.length ∧ bits r.words 0 15 8 = r.tag.toNat ∧ bits r.words 0 7 0 = r.code.toNat ∧
    (at_ r.words 1).toNat = status r.status ∧ r.words.drop 2 = r.result) ∧
  (∀ n : Notice,
    n.words.length = 4 ∧ bits n.words 0 15 8 = kind n.kind ∧ bits n.words 0 7 1 = 0 ∧
    (at_ n.words 0).getLsbD 0 = n.overflow ∧ n.words.drop 1 = [n.subject1, n.subject2, n.demandCount]) ∧
  (∀ (r : Record) (stored : Option (Nat × Nat)), fits r.a → fits r.b → r.bounded → r.band ≤ 7 → r.lastPeriod ≤ 1048575 →
    r.worstRms ≤ 32767 → r.seconds ≤ 4294967295 → (∀ x ∈ r.causes, x.2 ≤ 65535) →
    (∀ x, r.summary = some x →
      x.maxIqA ≤ 32767 ∧ x.maxIqB ≤ 32767 ∧ x.minUdcA ≤ 65535 ∧ x.minUdcB ≤ 65535 ∧ x.valid ≤ 256) →
    (∀ slot seq, stored = some (slot, seq) → slot ≤ 63 ∧ seq ≤ 4294967295) →
    let ws := r.words stored
    ws.length = 44 ∧ (at_ ws 0).getLsbD 15 = stored.isSome ∧ (at_ ws 0).getLsbD 14 = r.timeSet ∧
    (at_ ws 0).getLsbD 13 = r.merged ∧ (at_ ws 0).getLsbD 12 = r.summary.isSome ∧
    ((at_ ws 0).getLsbD 11 = true ↔ ∃ x, r.summary = some x ∧ x.short = true) ∧
    ((at_ ws 0).getLsbD 10 = true ↔ ∃ x, r.restart = some x ∧ x.requested = true) ∧
    ((at_ ws 0).getLsbD 9 = true ↔ ∃ x, r.restart = some x ∧ x.line = true) ∧
    ((at_ ws 0).getLsbD 8 = true ↔ ∃ x, r.restart = some x ∧ x.powerOn = true) ∧
    (at_ ws 0).getLsbD 7 = r.restart.isSome ∧ bits ws 0 6 0 = 0 ∧
    (stored = none → wide ws 1 = 0 ∧ (at_ ws 3).toNat = 65535) ∧
    (∀ slot seq, stored = some (slot, seq) → wide ws 1 = seq ∧ (at_ ws 3).toNat = slot) ∧
    wide ws 4 = r.seconds ∧ bits ws 6 15 13 = 0 ∧ bits ws 6 12 8 = r.first.val ∧ bits ws 6 7 6 = drive r.drive ∧
    bits ws 6 5 3 = action r.e ∧ bits ws 6 2 0 = r.band ∧ bits ws 7 15 12 = 0 ∧ bits ws 7 11 8 = worst r.worst ∧
    bits ws 7 7 6 = 0 ∧ bits ws 7 5 4 = r.v.val ∧ bits ws 7 3 2 = 0 ∧ bits ws 7 1 0 = marker r.marker ∧
    wide ws 8 = r.lastPeriod ∧ (at_ ws 10).toNat = r.worstRms ∧ motor ws 11 r.a ∧ motor ws 16 r.b ∧ bits ws 21 15 12 = 0 ∧
    bits ws 21 11 8 = r.causes.length ∧ bits ws 21 7 0 = r.further ∧
    (∀ i : Nat, i < 8 →
      (∀ c offset, r.causes[i]? = some (c, offset) →
        (at_ ws (22 + 2 * i)).toNat = c.val ∧ (at_ ws (23 + 2 * i)).toNat = offset) ∧
      (r.causes.length ≤ i → at_ ws (22 + 2 * i) = 0 ∧ at_ ws (23 + 2 * i) = 0)) ∧
    (∀ x, r.summary = some x →
      (ws.drop 38).map BitVec.toNat = [x.maxIqA, x.maxIqB, x.minUdcA, x.minUdcB, x.maxV.val, x.valid]) ∧
    (r.summary = none → ws.drop 38 = [0, 0, 0, 0, 0, 0])) ∧
  (∀ x : Sent, (∀ r, x = .management (.reply r) → r.result.length ≤ 253) →
    let p : Nat × List Word := match x with
      | .report r => (3, r.words)
      | .management (.reply r) => (4, r.words)
      | .management (.notice n) => (5, n.words)
      | .modulation _ f => (7, f.words)
      | .sweepOrder f => (9, f.words)
    let body := BitVec.ofNat 16 (p.1 * 256 + p.2.length) :: p.2
    let next (register : Word) (b : Bool) : Word :=
      if register.getLsbD 15 = b then register <<< 1 else (register <<< 1) ^^^ 32773#16
    let sentBits := body.flatMap fun w => (List.range 16).map fun i => w.getLsbD (15 - i)
    p.2.length ≤ 255 ∧ x.lineWords = body ++ [sentBits.foldl next 65535#16])

/-! ## Resets -/

/-- Every block's reset values, item by item, and the default of every field of both banks of the five tables (R27, R49, R59, R80, R92, R94,
R111, R131, R150, R163, R167, R168, R179, and the state and field tables): they hold of every state with BlocksReset, the form in which the
other statements name them, and of State.reset. P_0, which has no default, is left open. State.reset beside them: the state right after the
release of a power-on reset, with RESTART raised, its record gathering and its notice queued (R118, R150), and every invariant of
Safety.lean. That it stands after the release is log entry 1; the invariants of its array rest on the blank array of log entry 9; the idle
upstream line with no Report waiting is log entry 16. -/
def Obligations.ResetStateStandsTrippedWithInvariants : Prop :=
  let motor : MotorEntry :=
    { kpD := 0, kiD := 0, kpQ := 0, kiQ := 0, mceil := 29491, idMax := 0, ocThreshold := 16384, offLim := 512
      t1 := 2000, t2 := 2000, t3 := 2000, tHyst := 50, f1 := 32767, f2 := 32767, uLo := 0, uHi := 65535, uHyst := 0, nStale := 4 }
  let band (period : Nat) : BandEntry := { period := period, limitA := 0, limitB := 0, total := 0 }
  let channel : ChannelEntry :=
    { enable := false, alert := #v[32767, 32767, 32767, 32767], alarm := #v[32767, 32767, 32767, 32767]
      trip := #v[32767, 32767, 32767, 32767] }
  let input : TripInputEntry := { sense := .levelLow, minDuration := 10 }
  let link (timeout : Nat) : LinkEntry := { timeout := timeout, lockCode := 1, relock := true }
  let defaults (b : Tables) : Prop :=
    b.motor = { a := motor, b := motor } ∧
    b.torque =
      { bands := #v[band (b.torque.bands[(0 : Fin 8)]).period, band 240000, band 120000, band 60000, band 40000, band 30000,
          band 24000, band 20000]
        scalars :=
          { lcontA := 0, lcontB := 0, lcontTotal := 65534, accMax := 2000000000, accRelease := 0, decay := 0
            derateAction := 16384, rampStep := 16, imbThr := 65534, imbMin := 0, imbCount := 65535, stallTime := 1048575 } } ∧
    b.vibration =
      { channels := Vector.replicate 8 channel
        scalars :=
          { g := 2, w := 8, k := 8, pUp := 3, pDown := 3, hyst := 0, vp1 := 120000, vp2 := 40000, vp3 := 20000
            derate := #v[32767, 32767, 32767, 32767], refLo := -32767, refHi := 32767, flatFloor := 0, flatCount := 8
            minShift := 100, nW := 64 } } ∧
    b.action = Vector.replicate 31 { action := .trip, capture := true, log := true, latch := true, priority := .high } ∧
    b.line =
      { tin := #v[input, input, input, input], marker := { edge := .rising, minPeriod := 2000, maxPeriod := 300000 }
        linkC := link 200, linkA := link 10, linkB := link 10, linkS := link 50, nPost := 128 }
  let blocks (s : State) : Prop :=
    (∀ m, s.reg m =
      { offsetA := 0, offsetB := 0, calibrated := false, calibration := none, intD := 0, intQ := 0, age := 255
        idMeas := 0, iqMeas := 0, udcLast := 0, tempLast := 0, ft := 32767 }) ∧
    (∀ m, s.ld m = { id := 0, iq := 0, theta0 := 0, dtheta := 0, limit := 0 }) ∧
    s.tl = { s.tl with
      h := 32767, acc := 0, latch := false, upRun := 0, downRun := 0, prevStart := false, lastSeq := 0 } ∧
    s.mt = { state := .lost, counter := 0, lastPeriod := 0, silence := 0 } ∧
    (∀ c : Fin 8, s.vm.channels[c] =
      { mean := 0, sum := 0, peak := 0, rmsLast := 0, peakLast := 0, grade := none, upCount := 0, upLowest := 1, downCount := 0
        held := false }) ∧
    s.vm.window = 0 ∧ s.vm.v = 0 ∧
    s.scu = { s.scu with refFail := false, outRun := 0, inRun := 0, wire := none, testBits := 0 } ∧
    (∀ c : Fin 8, s.scu.checks[c] = { flat := false, flatRun := 0, wireFault := false }) ∧
    s.tu.e = .trip ∧ s.tu.drive = .tripped ∧ s.tu.tout = true ∧ s.tu.reason = .none ∧
    (∀ c, s.tu.active.has c = false) ∧ (∀ c, s.tu.latched.has c = decide (c.val = 29)) ∧
    (∀ x : Fin 4, s.tu.tin[x] = { raw := (s.tu.tin[x]).raw, filtered := .high, stable := 0 }) ∧
    s.cb = { s.cb with
      writeIndex := 0, valid := 0, state := .disarmed, remaining := 0, causes := [], short := false, cadence := none
      periods := 0 } ∧
    s.rs = { s.rs with state := .scanning, queue := [], nextSeq := 1, writeSlot := 0, retry := false } ∧
    (∀ l, s.link l = { state := .searching, good := 0, errors := 0, timer := none, relock := true }) ∧
    s.up = { sending := .idle, waiting := none } ∧
    defaults s.me.active ∧ defaults s.me.standby ∧
    s.me = { s.me with
      pendingSwitch := { motor := false, torque := false, vibration := false, action := false, line := false }
      replies := [], dropped := false, low := [], mask := 0x07FE, seconds := 0, timeSet := false, demandCount := 0 }
  (∀ s : State, BlocksReset s → blocks s ∧ s.rs.gathering = none ∧ s.me.high = []) ∧
  (let s := State.reset
    let none_ : MotorReading := { iqLimited := 0, idMeas := 0, iqMeas := 0, udc := 0, temp := 0 }
    blocks s ∧ s.supply = true ∧ s.held = { powerOn := false, line := false } ∧
    s.tu.restart = { powerOn := true, line := false, requested := false } ∧
    (∀ x : Fin 4, (s.tu.tin[x]).raw = s.pins.tin[x]) ∧
    s.rs.gathering = some
      { record :=
          { openedAt := s.rs.clock, seconds := 0, timeSet := false, first := 29, drive := .tripped, e := .trip, marker := .lost
            lastPeriod := 0, band := 0, a := none_, b := none_, v := 0, worst := none, worstRms := 0
            restart := some { powerOn := true, line := false, requested := false }, causes := [], further := 0, merged := false
            summary := none }
        timer := some 0, bound := false } ∧
    s.me.high = [{ kind := .causeRaised, subject1 := 29, subject2 := 0, demandCount := 0, overflow := false }] ∧
    s.sent = [] ∧ s.pending = []) ∧
  DriveInv State.reset ∧ ConditionInv State.reset ∧ VibrationInv State.reset ∧ BankInv State.reset ∧
  RangeInv State.reset ∧ QueueInv State.reset ∧ StoreInv State.reset ∧ HeldInv State.reset

/-- POWER_ON_RESET, LINE_RESET, LOSS_OF_SUPPLY: every block at its reset values (R116), the restart cause set by R117, the array kept but
for an operation cut short (R149), and nothing outside the blocks changed but what the event is. That the blocks are at their reset values
while the supply is missing is log entry 11; that they include P_0 at 1 in both banks is log entry 8 (the manual gives P_0 no default), the
idle upstream line, with no Report waiting, log entry 16, the record store's time base at 0 log entry 43, and the model's own time phase log
entry 2; that a power-on reset makes the set {power-on} while a line reset stays held is log entry 20; what a cut
leaves of each slot is free (log entry 4). RESET_RELEASE (R116, R118, R150): the part leaves reset when the last reset held is released;
RESTART is raised, its record opened and its notice queued; a release that leaves another reset held does nothing else. A reset of a kind
that is not held is not released (log entry 3); without supply a release of the line only notes that RSTL is high, and no power-on reset is
released (log entry 11). -/
def Obligations.ResetsBeginAndRelease : Prop :=
  (∀ s : State, Slots.Ok 64 s.rs.array →
    (∃ t, exec .powerOnReset s = .next t ∧ BlocksReset t ∧ CutArray s.rs t.rs.array ∧
      t.tu.restart = { powerOn := true, line := false, requested := false } ∧
      t.supply = true ∧ t.held = { powerOn := true, line := s.held.line } ∧
      t.pins = s.pins ∧ t.sent = s.sent ∧ t.pending = s.pending) ∧
    (s.supply = true →
      ∃ t, exec .lineReset s = .next t ∧ BlocksReset t ∧ CutArray s.rs t.rs.array ∧
        t.tu.restart = { s.tu.restart with line := true } ∧
        t.supply = true ∧ t.held = { powerOn := s.held.powerOn, line := true } ∧
        t.pins = s.pins ∧ t.sent = s.sent ∧ t.pending = s.pending) ∧
    (s.supply = false → exec .lineReset s = .next { s with held := { powerOn := s.held.powerOn, line := true } }) ∧
    (∃ t, exec .lossOfSupply s = .next t ∧ BlocksReset t ∧ CutArray s.rs t.rs.array ∧
      t.tu.restart = s.tu.restart ∧ t.supply = false ∧ t.held = s.held ∧
      t.pins = s.pins ∧ t.sent = s.sent ∧ t.pending = s.pending)) ∧
  (∀ s : State, BlocksReset s → s.supply = true →
    (s.held.powerOn = true → s.held.line = false → exec (.resetRelease .powerOn) s = .next s.afterRelease) ∧
    (s.held.line = true → s.held.powerOn = false → exec (.resetRelease .line) s = .next s.afterRelease) ∧
    (s.held.powerOn = true → s.held.line = true →
      exec (.resetRelease .powerOn) s = .next { s with held := { powerOn := false, line := true } } ∧
      exec (.resetRelease .line) s = .next { s with held := { powerOn := true, line := false } })) ∧
  (∀ s : State,
    (s.held.powerOn = false ∨ s.supply = false → exec (.resetRelease .powerOn) s = .next s) ∧
    (s.held.line = false → exec (.resetRelease .line) s = .next s) ∧
    (s.held.line = true → s.supply = false →
      exec (.resetRelease .line) s = .next { s with held := { powerOn := s.held.powerOn, line := false } }) ∧
    exec (.resetRelease .requested) s = .next s)

/-- While a reset is held no frame is taken and no timer's event is acted on (R116): only the levels of MK and TIN move, and the resets
and the supply themselves. That the part without supply stands as one in reset is the model's choice (log entry 11), and so is what a
reset still lets act (log entry 30, read from R116). -/
def Obligations.NothingActsWhileReset : Prop :=
  ∀ (i : Instr) (s : State), s.inReset = true →
    match i with
    | .powerOnReset | .lineReset | .lossOfSupply | .resetRelease _ => True
    | .activeEdge e =>
      exec i s = .next { s with pins := { s.pins with marker := match e with | .rising => .high | .falling => .low } }
    | .tripInputChange x level => exec i s = .next { s with pins := { s.pins with tin := s.pins.tin.set x level } }
    | _ => exec i s = .next s

/-! ## Invariants that every step keeps -/

/-- While a reset is held every block stays at its reset values (R116). That it holds without supply too is the model's choice (log entry
11), that the reset values include P_0 at 1 in both banks is log entry 8 (the manual gives P_0 no default), that the upstream line is then
idle, with no frame in sending and no Report waiting, is log entry 16, that the record store's time base stands at 0 is log entry 43, and the
phase of the time bases is the model's own field (log entry 2). -/
def Obligations.StepKeepsHeldInvariant : Prop :=
  ∀ s t : State, HeldInv s → step s = .next t → HeldInv t

/-- The drive runs only where R100 lets it, and E, TOUT and the run-only causes agree with it (R44, R93, R98, R104, R105, R115). That the part
without supply stands TRIPPED with TOUT asserted, as one in reset does, is the model's choice (log entry 11). -/
def Obligations.StepKeepsDriveInvariant : Prop :=
  ∀ s t : State, DriveInv s → step s = .next t → DriveInv t

/-- A level cause is active exactly while its block's condition holds (R41, R55, R74, R81, R84, R112, R143, R156). -/
def Obligations.StepKeepsConditionInvariant : Prop :=
  ∀ s t : State, HeldInv s → DriveInv s → BankInv s → ConditionInv s → step s = .next t → ConditionInv t

/-- Channels, V, the wire check and the test bits agree (R63, R72, R85, R90, R91). That a channel out of service has the u of its reset, 1, is
log entry 17. -/
def Obligations.StepKeepsVibrationInvariant : Prop :=
  ∀ s t : State, VibrationInv s → step s = .next t → VibrationInv t

/-- The active banks and every bank that waits for its switch pass R172, and every field of both banks is in its range (R169). -/
def Obligations.StepKeepsBankInvariant : Prop :=
  ∀ s t : State, BankInv s → step s = .next t → BankInv t

/-- The numbers of the regulators, the limiter, the marker timer, the vibration monitor with its sums, peaks and runs, the sensor check unit
with its runs and the wire check in flight, the trip inputs, the links and the engine stay in the ranges of their state tables; the
integrators by R22; and the link, cadence and gather timers stay below the count at which they expire, a link's timer running in LOCKING,
LOCKED and LOST alone (R155). -/
def Obligations.StepKeepsRangeInvariant : Prop :=
  ∀ s t : State, BankInv s → VibrationInv s → RangeInv s → step s = .next t → RangeInv t

/-- No queue outgrows its depth, and the capture's items and a bound record agree with the capture state (R121 to R125, R134, R135, R137,
R138, R174, R177). -/
def Obligations.StepKeepsQueueInvariant : Prop :=
  ∀ s t : State, BankInv s → QueueInv s → step s = .next t → QueueInv t

/-- The ring and the array keep their forms; stored sequence numbers are distinct and below next sequence (R119, R132, R139, R141,
R145, R148). R132 says that no slot of a sector being erased reads Valid; that every one of them, and the slot being programmed, reads
Invalid and not Blank is the model's (log entry 24). -/
def Obligations.StepKeepsStoreInvariant : Prop :=
  ∀ s t : State, QueueInv s → StoreInv s → step s = .next t → StoreInv t

/-! ## Rules over every step -/

/-- A drive in TRIPPED leaves it at an ACKNOWLEDGE alone, for STOPPED, with E below Trip (R100, R101, R108). -/
def Obligations.TrippedUntilAcknowledged : Prop :=
  ∀ s t : State, s.tu.drive = .tripped → step s = .next t →
    t.tu.drive = .tripped ∨
      (∃ tag rest, s.pending = .acknowledge tag :: rest ∧ s.ready ∧ t.tu.drive = .stopped ∧ t.tu.e ≠ .trip)

/-- The drive comes into RUN or HOLD by one event alone: a Demand on a LOCKED C-link whose start flag rises in STOPPED, with every start
condition of R102 met; its entry effects are those of R17, R38, R54 and R106. -/
def Obligations.RunOnlyByStartEdge : Prop :=
  ∀ s t : State, s.running = false → step s = .next t → t.running = true →
    ∃ f rest, s.pending = .demand f :: rest ∧ s.linkC.state = .locked ∧ s.tu.drive = .stopped ∧
      f.start = true ∧ s.tl.prevStart = false ∧ t.tu.drive = .run ∧ t.tu.reason = .none ∧
      t.linkA.state = .locked ∧ t.linkB.state = .locked ∧ t.regA.calibrated = true ∧ t.regB.calibrated = true ∧
      t.regA.calibration = none ∧ t.regB.calibration = none ∧ t.tu.e ≠ .hold ∧ t.tu.e ≠ .trip ∧
      t.tl.h = 32767 ∧ t.mt.silence = 0 ∧
      t.regA.intD = 0 ∧ t.regA.intQ = 0 ∧ t.regB.intD = 0 ∧ t.regB.intQ = 0

/-- A bank changes only by a reset, by a Demand that a pending switch takes effect at, or, the standby bank alone, by WRITE ENTRY and
COPY BANK (R168, R169, R171, R173). -/
def Obligations.BanksChangeOnlyWhereSwitchedOrWritten : Prop :=
  ∀ s t : State, step s = .next t →
    (t.me.active = s.me.active ∨
      ∃ c rest, s.pending = c :: rest ∧
        (Instr.isReset c = true ∨ ∃ f tb, c = .demand f ∧ s.me.pendingSwitch.get tb = true)) ∧
    (t.me.standby = s.me.standby ∨
      ∃ c rest, s.pending = c :: rest ∧
        (Instr.isReset c = true ∨ (∃ f tb, c = .demand f ∧ s.me.pendingSwitch.get tb = true) ∨
          (∃ tag tb i vs, c = .writeEntry tag tb i vs) ∨ ∃ tag tb, c = .copyBank tag tb))

/-- A frozen capture keeps its snapshots, its cause list and its short flag until CAPTURE RELEASE, CAPTURE DISARM or a reset (R125, R128,
R129, R131); only the period count goes on. -/
def Obligations.FrozenCaptureIsKept : Prop :=
  ∀ s t : State, QueueInv s → s.cb.state = .frozen → step s = .next t →
    t.cb = { s.cb with periods := t.cb.periods } ∨
      ∃ c rest, s.pending = c :: rest ∧
        (Instr.isReset c = true ∨ (∃ tag, c = .captureRelease tag) ∨ ∃ tag, c = .captureDisarm tag)

/-- Whatever the command, a reset and its release apart: a step that leaves the drive in another state has queued a DRIVE_STATE notice with
the state it leaves, behind every notice that stood in the high queue and before no other DRIVE_STATE notice (R107); a step that brings a
cause into the active or the latched set has queued its CAUSE_RAISED notice, and one that takes a cause out of the active set its
CAUSE_CLEARED notice, each in the queue of the cause's priority field (R96, R97), or the queue was full and its tail says so (R177). A kind
that the mask disables, and a cause acting at Ignore, queue nothing; a cause whose ACTION entry this step switched is left out, since it may
have moved under either entry. -/
def Obligations.StepAnnouncesWhatItMoves : Prop :=
  ∀ s t : State, step s = .next t →
    (∀ c rest, s.pending = c :: rest → Instr.isReset c = false ∧ ∀ k, c ≠ .resetRelease k) →
    let code : DriveState → Word := fun d => match d with
      | .stopped => 0
      | .run => 1
      | .hold => 2
      | .tripped => 3
    let full (q : List Notice) : Prop := 8 ≤ q.length ∧ ∃ last, q.getLast? = some last ∧ last.overflow = true
    (t.tu.drive ≠ s.tu.drive → s.me.mask.getLsbD 3 = true →
      full t.me.high ∨
        ∃ front n back, t.me.high = front ++ n :: back ∧ s.me.high.length ≤ front.length ∧ n.kind = .driveState ∧
          n.subject1 = code t.tu.drive ∧ n.subject2 = 0 ∧ n.demandCount = t.me.demandCount ∧
          ∀ x ∈ back, x.kind ≠ .driveState) ∧
    (∀ c : Cause, t.act.action[c] = s.act.action[c] → s.acting c ≠ .ignore →
      let queue (x : State) : List Notice := match (s.act.action[c]).priority with
        | .high => x.me.high
        | .low => x.me.low
      let tells (k : NoticeKind) : Prop :=
        full (queue t) ∨
          ∃ front n back, queue t = front ++ n :: back ∧ (queue s).length ≤ front.length ∧ n.kind = k ∧
            n.subject1 = BitVec.ofNat 16 c.val ∧ n.subject2 = 0 ∧ n.demandCount = t.me.demandCount
      (s.me.mask.getLsbD 1 = true →
        (s.tu.active.has c = false ∧ t.tu.active.has c = true) ∨ (s.tu.latched.has c = false ∧ t.tu.latched.has c = true) →
        tells .causeRaised) ∧
      (s.me.mask.getLsbD 2 = true → s.tu.active.has c = true → t.tu.active.has c = false → tells .causeCleared))

/-! ## Current regulation (chapter 01) -/

/-- SAMPLE, in every state: out of reset on a link that is not DOWN it is answered by exactly one Modulation with its sequence echoed, whose
gates are on exactly when the link is LOCKED, the drive as this Sample leaves it is in RUN or HOLD, the overcurrent condition of R8 is absent
and no calibration of the motor is in flight; with gates off both voltages are 0 (R1, R9, R16, R158). The link makes the transition of a good
frame (R154). On a link that is not LOCKED the regulators keep their measurements, their ages, their offsets and a calibration (R158): the
Sample is that frame, its answer and, on P-link A, the period reference. A link that is DOWN, or a part in reset, or without supply (log entry
11), does not see the Sample (R116, R151). That a calibration is counted before the gate decision is log entry 15. -/
def Obligations.GatesNeedRunningDrive : Prop :=
  ∀ (m : Motor) (f : SampleFrame) (s : State),
    let signed (w : Word) : Int := if w.toInt = -32768 then -32767 else w.toInt
    let sat (x : Int) : Int := max (-32767) (min x 32767)
    let ia := sat (signed f.ia - (s.reg m).offsetA)
    let ib := sat (signed f.ib - (s.reg m).offsetB)
    let threshold := (s.act.motorEntry m).ocThreshold
    let oc : Prop :=
      threshold < ia.natAbs ∨ threshold < ib.natAbs ∨ threshold < (sat (-ia - ib)).natAbs ∨
      (signed f.ia).natAbs = 32767 ∨ (signed f.ib).natAbs = 32767
    (s.inReset = true ∨ (s.link (powerLink m)).state = .down → exec (.sample m f) s = .next s) ∧
    (s.inReset = false → (s.link (powerLink m)).state ≠ .down →
      ∃ t x, exec (.sample m f) s = .next t ∧ t.sent = .modulation m x :: s.sent ∧ x.seq = f.seq ∧
        (x.gate = true ↔
          (s.link (powerLink m)).state = .locked ∧ (t.tu.drive = .run ∨ t.tu.drive = .hold) ∧
          ¬ oc ∧
          (t.reg m).calibration = none) ∧
        (x.gate = false → x.va = 0 ∧ x.vb = 0) ∧ x.va.natAbs ≤ 32767 ∧ x.vb.natAbs ≤ 32767 ∧
        (∀ l, t.link l = if l = powerLink m then (s.goodFrame l).link l else s.link l) ∧
        ((s.link (powerLink m)).state ≠ .locked →
          (∀ o, t.reg o = { s.reg o with intD := (t.reg o).intD, intQ := (t.reg o).intQ }) ∧
          CauseFrame
            { s with
              linkA := t.linkA, linkB := t.linkB, tl := { s.tl with h := t.tl.h }, cb := t.cb, sent := t.sent } t ∧
          (m = .B → t = State.goodFrame { s with sent := t.sent } .B)))

/-- What every Sample taken leaves, on a LOCKED link: the measurements of R2, R3, R6, R7 at the angle of R13; the age stepped (R13); the
thermal factor (R12); the membership of the check causes, OVERCURRENT at a conditioned current above the threshold or a raw one at full
scale (R8), MODULE (R10), the DC link (R11), the heatsink (R12) and the demand age (R15), and of the latched set where the latch field of
the ACTION entry is on. Between two limits a cause keeps its membership; where a heatsink temperature meets both of R12's
limits, the raise is taken (log entry 12). The rest of the part is as it was but for what a cause event touches (R96, R97) and,
on P-link A, the period reference (R37, R119). -/
def Obligations.TakenSampleMeasuresAndChecks : Prop :=
  ∀ (m : Motor) (f : SampleFrame) (s : State),
    s.inReset = false → (s.link (powerLink m)).state = .locked →
    ∃ t, exec (.sample m f) s = .next t ∧
      let signed (w : Word) : Int := if w.toInt = -32768 then -32767 else w.toInt
      let sat (x : Int) : Int := max (-32767) (min x 32767)
      let rounded (x : Int) (n : Nat) : Int := (x + (n / 2 : Nat)) / n
      let r := s.reg m
      let e := s.act.motorEntry m
      let ia := sat (signed f.ia - r.offsetA)
      let ib := sat (signed f.ib - r.offsetB)
      let theta : Word := (s.ld m).theta0 + BitVec.ofInt 16 (r.age * (s.ld m).dtheta)
      let sn := sine (theta.toNat / 64)
      let cs := sine ((theta.toNat / 64 + 256) % 1024)
      let beta := sat (rounded ((ia + 2 * ib) * 18919) 32768)
      let temp := signed f.temp
      let udc := f.udc.toNat
      (t.reg m).idMeas = sat (rounded (ia * cs + beta * sn) 32768) ∧
      (t.reg m).iqMeas = sat (rounded (-ia * sn + beta * cs) 32768) ∧
      (t.reg m).udcLast = udc ∧ (t.reg m).tempLast = temp ∧ (t.reg m).age = min (r.age + 1) 255 ∧
      (t.reg m).ft = (if temp < e.t1 then 32767 else if temp < e.t2 then e.f1 else e.f2) ∧
      t.tu.active.has (.overcurrent m) =
        decide (e.ocThreshold < ia.natAbs ∨ e.ocThreshold < ib.natAbs ∨ e.ocThreshold < (sat (-ia - ib)).natAbs ∨
          (signed f.ia).natAbs = 32767 ∨ (signed f.ib).natAbs = 32767) ∧
      t.tu.active.has (.module m) = f.flags.getLsbD 0 ∧
      t.tu.active.has (.undervolt m) =
        (decide (udc < e.uLo) || (s.tu.active.has (.undervolt m) && !decide (e.uLo + e.uHyst ≤ udc))) ∧
      t.tu.active.has (.overvolt m) =
        (decide (e.uHi < udc) || (s.tu.active.has (.overvolt m) && !decide ((udc : Int) ≤ (e.uHi : Int) - e.uHyst))) ∧
      t.tu.active.has (.heatsink m) =
        (decide (e.t3 ≤ temp) || (s.tu.active.has (.heatsink m) && !decide (temp ≤ e.t3 - e.tHyst))) ∧
      t.tu.active.has .demandLost = (s.tu.active.has .demandLost || decide (e.nStale ≤ r.age)) ∧
      (∀ c, t.tu.latched.has c =
        (s.tu.latched.has c ||
          (t.tu.active.has c && !s.tu.active.has c && (s.act.action[c]).latch))) ∧
      (r.calibration = none →
        t.reg m = { t.reg m with
          offsetA := r.offsetA, offsetB := r.offsetB, calibrated := r.calibrated, calibration := none }) ∧
      (∀ o, o ≠ m → t.reg o = { s.reg o with intD := (t.reg o).intD, intQ := (t.reg o).intQ }) ∧
      t.tl = { s.tl with h := t.tl.h, upRun := t.tl.upRun, downRun := t.tl.downRun } ∧
      t.mt = s.mt ∧ t.vm = s.vm ∧ t.scu = s.scu ∧ t.up = s.up ∧ t.pins = s.pins ∧ t.held = s.held ∧ t.supply = s.supply ∧
      t.tu = { s.tu with
        active := t.tu.active, latched := t.tu.latched, e := t.tu.e, drive := t.tu.drive, tout := t.tu.tout } ∧
      t.rs = { s.rs with
        array := t.rs.array, state := t.rs.state, gathering := t.rs.gathering, queue := t.rs.queue,
        writeSlot := t.rs.writeSlot } ∧
      (m = .B → t.cb = { s.cb with
        state := t.cb.state, remaining := t.cb.remaining, causes := t.cb.causes, short := t.cb.short,
        cadence := t.cb.cadence }) ∧
      t.me = { s.me with high := t.me.high, low := t.me.low } ∧
      t.time = s.time ∧ t.draws = s.draws ∧ t.pending = s.pending ∧
      (∀ l, t.link l = if l = powerLink m then { s.link l with timer := some 0 } else s.link l)

/-- A Sample answered with gates on: the references of R18, the errors and proportional terms of R19, the integrators and the two voltages
of R20 and R21, within the voltage bound, and the inverse Park transform of R23 at the Sample's own angle. A Sample answered with gates
off leaves the motor's integrators, but for an entry to TRIPPED, which clears them (R16, R17). -/
def Obligations.GatedSampleRegulates : Prop :=
  ∀ (m : Motor) (f : SampleFrame) (s t : State) (x : Modulation),
    exec (.sample m f) s = .next t → t.sent = .modulation m x :: s.sent →
    (x.gate = true →
      let clamp (x : Int) (a : Nat) : Int := max (-(a : Int)) (min x a)
      let sat (x : Int) : Int := max (-32767) (min x 32767)
      let e := s.act.motorEntry m
      let theta : Word := (s.ld m).theta0 + BitVec.ofInt 16 ((s.reg m).age * (s.ld m).dtheta)
      let sn := sine (theta.toNat / 64)
      let cs := sine ((theta.toNat / 64 + 256) % 1024)
      let iqRef : Int := ((s.ld m).iq * t.tl.h + 16384) / 32768
      let ed := (s.ld m).id - (t.reg m).idMeas
      let eq := iqRef - (t.reg m).iqMeas
      let pd : Int := (e.kpD * ed + 2048) / 4096
      let pq : Int := (e.kpQ * eq + 2048) / 4096
      (t.reg m).intD = clamp ((s.reg m).intD + e.kiD * ed) (e.mceil * 65536) ∧
      ∃ vd vq : Int, ∃ vqLim : Nat,
        vd = clamp (pd + ((t.reg m).intD + 32768) / 65536) e.mceil ∧
        (vqLim * vqLim : Int) ≤ (e.mceil : Int) ^ 2 - vd ^ 2 ∧ (e.mceil : Int) ^ 2 - vd ^ 2 < (vqLim + 1 : Int) ^ 2 ∧
        (t.reg m).intQ = clamp ((s.reg m).intQ + e.kiQ * eq) (vqLim * 65536) ∧
        vq = clamp (pq + ((t.reg m).intQ + 32768) / 65536) vqLim ∧
        vd.natAbs ≤ e.mceil ∧ vd ^ 2 + vq ^ 2 ≤ (e.mceil : Int) ^ 2 ∧
        x.va = sat ((vd * cs - vq * sn + 16384) / 32768) ∧ x.vb = sat ((vd * sn + vq * cs + 16384) / 32768)) ∧
    (x.gate = false →
      ((t.reg m).intD = (s.reg m).intD ∧ (t.reg m).intQ = (s.reg m).intQ) ∨
      (s.tu.drive ≠ .tripped ∧ t.tu.drive = .tripped ∧ (t.reg m).intD = 0 ∧ (t.reg m).intQ = 0))

/-- A calibration in flight at a Sample taken (R25, R26): the module-fault flag aborts it, 255 Samples are counted with their raw currents
summed, and the 256th completes it against off_lim; the offsets change only at a result in range. An end is announced by CAL_DONE with the
motor and its result, 0 OK, 1 OUT_OF_RANGE, 2 ABORTED (R166), unless the mask disables the kind. -/
def Obligations.CalibrationCompletesAt256 : Prop :=
  ∀ (m : Motor) (f : SampleFrame) (s : State) (k : Calibration),
    s.inReset = false → (s.link (powerLink m)).state = .locked → (s.reg m).calibration = some k →
    ∃ t, exec (.sample m f) s = .next t ∧
      let signed (w : Word) : Int := if w.toInt = -32768 then -32767 else w.toInt
      let sumA := k.sumA + signed f.ia
      let sumB := k.sumB + signed f.ib
      let a : Int := (sumA + 128) / 256
      let b : Int := (sumB + 128) / 256
      let lim := (s.act.motorEntry m).offLim
      let motor : Word := match m with
        | .A => 0
        | .B => 1
      let told (result : Word) : Prop :=
        s.me.mask.getLsbD 8 = true →
          Announced s.me.low t.me.low
            { kind := .calDone, subject1 := motor, subject2 := result, demandCount := s.me.demandCount, overflow := false }
      if f.flags.getLsbD 0 = true then
        told 2 ∧ (t.reg m).calibration = none ∧ (t.reg m).calibrated = (s.reg m).calibrated ∧
        (t.reg m).offsetA = (s.reg m).offsetA ∧ (t.reg m).offsetB = (s.reg m).offsetB
      else if k.count < 255 then
        (t.reg m).calibration = some { count := k.count + 1, sumA := sumA, sumB := sumB } ∧
        (t.reg m).calibrated = (s.reg m).calibrated ∧
        (t.reg m).offsetA = (s.reg m).offsetA ∧ (t.reg m).offsetB = (s.reg m).offsetB
      else if lim < a.natAbs ∨ lim < b.natAbs then
        told 1 ∧ (t.reg m).calibration = none ∧ (t.reg m).calibrated = false ∧
        (t.reg m).offsetA = (s.reg m).offsetA ∧ (t.reg m).offsetB = (s.reg m).offsetB
      else
        told 0 ∧ (t.reg m).calibration = none ∧ (t.reg m).calibrated = true ∧
        (t.reg m).offsetA = a ∧ (t.reg m).offsetB = b

/-- The period reference, a Sample on a P-link A that is not DOWN: H advances by the drive state it finds (R37); the period count
steps and the ring takes its snapshot at the close of the event in ARMED and TRIGGERED, with the items of R120 as their owners then hold
them; in TRIGGERED the remaining count falls and at 0 the capture freezes, and the cadence timer restarts (R119, R123, R124). A raise
within the event that triggers the capture in ARMED starts it with N_post snapshots to come, of which this one is the first; with N_post 0
it freezes in the raise, before the snapshot, which is then not written (R122). A capture DISARMED or FROZEN does not move. At a freeze,
CAPTURE_FROZEN is queued with the first entry of the cause list unless the mask disables the kind (R125), and a record bound to the capture
closes with its summary and joins the queue (R137, R138). That at the Sample that locks P-link A the clear of LINK_A_LOST comes before the
snapshot, which then carries the E it leaves, is log entry 42. -/
def Obligations.PeriodReferenceMovesHoldAndRing : Prop :=
  ∀ (f : SampleFrame) (s : State), s.inReset = false → s.linkA.state ≠ .down →
    ∃ t, exec (.sample .A f) s = .next t ∧
      let step := s.act.torque.scalars.rampStep
      let nPost := s.act.line.nPost
      let reading (d : LimitedDemand) (r : Regulator) : MotorReading :=
        { iqLimited := d.iq, idMeas := r.idMeas, iqMeas := r.iqMeas, udc := r.udcLast, temp := r.tempLast }
      let x : Snapshot :=
        { period := s.cb.periods + 1, seq := s.tl.lastSeq, drive := t.tu.drive, e := t.tu.e, h := t.tl.h
          a := reading t.tl.ldA t.regA, b := reading t.tl.ldB t.regB, v := t.vm.v, worst := t.worst, worstRms := t.worstRms }
      let written : Prop :=
        t.cb.slots = slotPut s.cb.writeIndex.val x s.cb.slots ∧ t.cb.writeIndex = s.cb.writeIndex + 1 ∧
        t.cb.valid = min (s.cb.valid + 1) 256
      let told : Prop := s.me.mask.getLsbD 5 = true → ∀ x rest, t.cb.causes = x :: rest →
        Announced s.me.low t.me.low
          { kind := .captureFrozen
            subject1 := match x with
              | .cause c => BitVec.ofNat 16 c.val
              | .request => 31
            subject2 := 0, demandCount := s.me.demandCount, overflow := false }
      let joined (r : Record) : RecordStore :=
        RecordStore.writeIfIdle { s.rs with gathering := none, queue := enqueueRecord s.rs.queue r }
      t.tl.h = (match s.tu.drive with
        | .hold => s.tl.h - step
        | .run => min 32767 (s.tl.h + step)
        | .stopped | .tripped => s.tl.h) ∧
      t.cb.periods = s.cb.periods + 1 ∧
      (s.cb.state = .disarmed ∨ s.cb.state = .frozen → t.cb = { s.cb with periods := s.cb.periods + 1 }) ∧
      (s.cb.state = .armed → t.cb.state = .armed →
        written ∧
        t.cb = { s.cb with
          periods := t.cb.periods, slots := t.cb.slots, writeIndex := t.cb.writeIndex, valid := t.cb.valid }) ∧
      (s.cb.state = .armed → t.cb.state ≠ .armed →
        (∃ c rest, t.cb.causes = .cause c :: rest ∧ (s.act.action[c]).capture = true ∧ s.acting c ≠ .ignore) ∧
        t.cb.short = false ∧
        (nPost = 0 →
          t.cb.state = .frozen ∧ t.cb.remaining = 0 ∧ t.cb.cadence = none ∧ t.cb.slots = s.cb.slots ∧
          t.cb.writeIndex = s.cb.writeIndex ∧ t.cb.valid = s.cb.valid) ∧
        (nPost ≠ 0 →
          written ∧ t.cb.remaining = nPost - 1 ∧ t.cb.state = (if nPost ≤ 1 then .frozen else .triggered) ∧
          t.cb.cadence = (if nPost ≤ 1 then none else some 0)) ∧
        (nPost ≤ 1 →
          told ∧
          ∀ c rest, t.cb.causes = .cause c :: rest → (s.act.action[c]).log = true →
            (nPost = 1 → t.rs.gathering = none) ∧
            ∃ r, r.summary = some t.cb.summary ∧ t.rs = { joined r with gathering := t.rs.gathering })) ∧
      (s.cb.state = .triggered →
        written ∧ t.cb.remaining = s.cb.remaining - 1 ∧
        t.cb.state = (if s.cb.remaining ≤ 1 then .frozen else .triggered) ∧
        t.cb.cadence = (if s.cb.remaining ≤ 1 then none else some 0) ∧
        (1 < s.cb.remaining → t.rs = { s.rs with gathering := t.rs.gathering }) ∧
        (s.cb.remaining ≤ 1 →
          t.cb.short = false ∧ told ∧
          (∀ g, s.rs.gathering = some g → g.bound = true →
            ∃ more further, t.rs = joined { g.record with
              causes := g.record.causes ++ more, further := further, summary := some t.cb.summary }) ∧
          ((∀ g, s.rs.gathering = some g → g.bound = false) → t.rs = { s.rs with gathering := t.rs.gathering })))

/-- The ROM table of R5: 1024 entries, entry k being 32767 × sin(2πk/1024) rounded to the nearest integer, read at θ div 64 for the sine
and a quarter turn on for the cosine, whatever the state. -/
def Obligations.SineTableIsRoundedSine : Prop :=
  (∀ k : Nat, k < 1024 → |(sine k : ℝ) - 32767 * Real.sin (2 * Real.pi * k / 1024)| ≤ 1 / 2) ∧
  (∀ theta : Word, sinOf theta = sine (theta.toNat / 64) ∧ cosOf theta = sine ((theta.toNat / 64 + 256) % 1024)) ∧
  sine 0 = 0 ∧ sine 1 = 201 ∧ sine 64 = 12539 ∧ sine 128 = 23170 ∧ sine 256 = 32767 ∧ sine 512 = 0 ∧ sine 768 = -32767

/-! ## Torque limiting (chapter 02) -/

/-- The limit of a motor: R33's three factors in turn on the band limit Lb, and R34's continuous-rating limit while the overload latch is
set. Fc is derate_action exactly while a cause acting at Derate is in the active or the latched set. With settings in their ranges no factor
raises a value; a factor of 32767 leaves a value at or below 16384 and lowers a larger one by one. The sharing of the total (R35): no scaling
where the sum of the magnitudes is within the total; otherwise each demand is scaled by the exact product truncated toward zero, keeps its
sign, does not grow, and the scaled sum is the total or one below it. -/
def Obligations.LimitsReduceAndShare : Prop :=
  ((∀ (s : State) (m : Motor),
    let lb := match m with
      | .A => s.act.torque.bands[s.bandIndex].limitA
      | .B => s.act.torque.bands[s.bandIndex].limitB
    let fv := s.act.vibration.scalars.derate[s.vm.v]
    let l1 := (lb * fv + 16384) / 32768
    let l2 := (l1 * (s.reg m).ft + 16384) / 32768
    s.bandIndex.val = s.torqueBand ∧
    ∃ fc l3, l3 = (l2 * fc + 16384) / 32768 ∧
      ((∃ c, (s.tu.active.has c = true ∨ s.tu.latched.has c = true) ∧ s.acting c = .derate) →
        fc = s.act.torque.scalars.derateAction) ∧
      ((∀ c, s.tu.active.has c = true ∨ s.tu.latched.has c = true → s.acting c ≠ .derate) → fc = 32767) ∧
      (s.tl.latch = false → s.limitOf m = l3) ∧
      (s.tl.latch = true →
        s.limitOf m = min l3 (match m with
          | .A => s.act.torque.scalars.lcontA
          | .B => s.act.torque.scalars.lcontB)) ∧
      (BankInv s → (s.reg m).ft ≤ 32767 → l1 ≤ lb ∧ l2 ≤ l1 ∧ l3 ≤ l2 ∧ s.limitOf m ≤ lb)) ∧
  (∀ x : Nat, x ≤ 16384 → (x * 32767 + 16384) / 32768 = x) ∧
  (∀ x : Nat, 16384 < x → x ≤ 32767 → (x * 32767 + 16384) / 32768 = x - 1)) ∧
  (∀ (a b : Int) (total : Nat),
    let sum := a.natAbs + b.natAbs
    let a' := shareTotal a total sum
    let b' := shareTotal b total sum
    (sum ≤ total → a' = a ∧ b' = b) ∧
    (total < sum →
      a' = (a * total).tdiv sum ∧ b' = (b * total).tdiv sum ∧ total - 1 ≤ a'.natAbs + b'.natAbs) ∧
    a'.natAbs + b'.natAbs ≤ total ∧
    a'.natAbs ≤ a.natAbs ∧ b'.natAbs ≤ b.natAbs ∧
    (0 ≤ a → 0 ≤ a') ∧ (a ≤ 0 → a' ≤ 0) ∧ (0 ≤ b → 0 ≤ b') ∧ (b ≤ 0 → b' ≤ 0) ∧
    (total = 0 → a' = 0 ∧ b' = 0))

/-- DEMAND on a LOCKED C-link (R28, R29, R31, R34 to R36, R46, R177): whatever the drive state, the two records take the clamped and
shared demands under the limits that stand after the table switches and the overload update (`u`), both ages are 0, DEMAND_LOST is not
active, and the sequence number, the Demand count and the previous start flag are taken. A C-link in another state, or a part in reset,
does not act on it: see RequestsGetOneReplyOrAreNotActedOn. The banks it leaves are those that its table switches give
(`w`, TableSwitchTakesEffect), with no switch pending any more (R173). -/
def Obligations.DemandStoresLimitedDemands : Prop :=
  ∀ (f : DemandFrame) (s : State), s.inReset = false → s.linkC.state = .locked →
    ∃ t, exec (.demand f) s = .next t ∧
      let signed (w : Word) : Int := if w.toInt = -32768 then -32767 else w.toInt
      let clamp (x : Int) (a : Nat) : Int := max (-(a : Int)) (min x a)
      let w := State.switchTables
        { s.heardC with
          me := { s.me with demandCount := s.me.demandCount + 1 }
          tl := { s.tl with lastSeq := f.seq } }
      let u := w.updateOverload
      t.me.active = w.me.active ∧ t.me.standby = w.me.standby ∧ t.me.pendingSwitch = w.me.pendingSwitch ∧
      (∀ tb, t.me.pendingSwitch.get tb = false) ∧
      let iqA := clamp (signed f.a.iq) (u.limitOf .A)
      let iqB := clamp (signed f.b.iq) (u.limitOf .B)
      let total := u.act.torque.bands[u.bandIndex].total
      let sum := iqA.natAbs + iqB.natAbs
      t.tl.ldA =
        { id := clamp (signed f.a.id) (t.act.motorEntry .A).idMax, iq := shareTotal iqA total sum, theta0 := f.a.theta,
          dtheta := signed f.a.dtheta, limit := u.limitOf .A } ∧
      t.tl.ldB =
        { id := clamp (signed f.b.id) (t.act.motorEntry .B).idMax, iq := shareTotal iqB total sum, theta0 := f.b.theta,
          dtheta := signed f.b.dtheta, limit := u.limitOf .B } ∧
      t.tl.ldA.iq.natAbs + t.tl.ldB.iq.natAbs ≤ total ∧
      t.regA.age = 0 ∧ t.regB.age = 0 ∧ t.tu.active.has .demandLost = false ∧
      t.tl.lastSeq = f.seq ∧ t.tl.prevStart = f.start ∧ t.me.demandCount = s.me.demandCount + 1

/-- What stage 1 of a Demand does with the pending switches (R173): each in the order of the table codes, one that is not pending doing
nothing. A pending one exchanges the two banks of its table, clears its flag and queues TABLE_SWITCHED with the table as its subject; then
the blocks take their effects. MOTOR: both regulators' integrators are clamped to the new Mceil (R22). TORQUE: nothing but the bank (R42).
VIBRATION: the window, the channels that leave and enter service, V and its causes (R77), a wire check that G or its channel ends, the flat
flags and SENSOR_FLAT (R91). ACTION: E and the drive state are judged anew, with no set, capture or record touched (R110). LINE: the marker
timer and MARKER_LOST (R58), the four filters and their causes (R114), the relock modes (R162), and a capture that is running keeps its
remaining count (R122). The order in which the four inputs' causes move is log entry 36; nothing here depends on it. That the marker timer,
the trip inputs and the links take a LINE switch in this order is the model's choice (log entry 40); that a channel that leaves or enters
service has its u at 1 is log entry 17. -/
def Obligations.TableSwitchTakesEffect : Prop :=
  (∀ s : State, s.switchTables =
    ((((s.switchTable .motor).switchTable .torque).switchTable .vibration).switchTable .action).switchTable .line) ∧
  ∀ (s : State) (tb : TableId),
    let t := s.switchTable tb
    (s.me.pendingSwitch.get tb = false → t = s) ∧
    (s.me.pendingSwitch.get tb = true →
      let old := s.me.active
      let new := s.me.standby
      let flags := s.me.pendingSwitch
      let code : Word := match tb with
        | .motor => 0
        | .torque => 1
        | .vibration => 2
        | .action => 3
        | .line => 4
      let me : Management := match tb with
        | .motor => { s.me with
            active := { old with motor := new.motor }, standby := { new with motor := old.motor }
            pendingSwitch := { flags with motor := false } }
        | .torque => { s.me with
            active := { old with torque := new.torque }, standby := { new with torque := old.torque }
            pendingSwitch := { flags with torque := false } }
        | .vibration => { s.me with
            active := { old with vibration := new.vibration }, standby := { new with vibration := old.vibration }
            pendingSwitch := { flags with vibration := false } }
        | .action => { s.me with
            active := { old with action := new.action }, standby := { new with action := old.action }
            pendingSwitch := { flags with action := false } }
        | .line => { s.me with
            active := { old with line := new.line }, standby := { new with line := old.line }
            pendingSwitch := { flags with line := false } }
      let u := State.notify { s with me := me } .tableSwitched code 0 .low
      t.me = { me with high := t.me.high, low := t.me.low } ∧
      (s.me.mask.getLsbD 4 = true →
        Announced s.me.low t.me.low
          { kind := .tableSwitched, subject1 := code, subject2 := 0, demandCount := s.me.demandCount, overflow := false }) ∧
      match tb with
      | .motor =>
        let a := new.motor.a.mceil * 65536
        let b := new.motor.b.mceil * 65536
        t = { u with
          regA := { s.regA with intD := clamp s.regA.intD a, intQ := clamp s.regA.intQ a }
          regB := { s.regB with intD := clamp s.regB.intD b, intQ := clamp s.regB.intQ b } }
      | .torque => t = u
      | .vibration =>
        let o := old.vibration
        let n := new.vibration
        let was (c : Fin 8) : Bool := o.channels[c].enable && decide (c.val < o.scalars.g)
        let serves (c : Fin 8) : Bool := n.channels[c].enable && decide (c.val < n.scalars.g)
        let restarted := decide (n.scalars.g ≠ o.scalars.g ∨ n.scalars.w ≠ o.scalars.w ∨ n.scalars.k ≠ o.scalars.k)
        let state (c : Fin 8) : Grade := (t.vm.channels[c]).grade.getD 0
        let ends (w : WireCheck) : Prop := n.scalars.g ≠ o.scalars.g ∨ serves w.channel = false
        t.vm.window = (if restarted then 0 else s.vm.window) ∧
        (∀ c : Fin 8,
          let a := s.vm.channels[c]
          let fresh (grade : Option Grade) (held : Bool) : Channel :=
            { mean := a.mean, sum := 0, peak := 0, rmsLast := 0, peakLast := 0, grade := grade, upCount := 0, upLowest := 1,
              downCount := 0, held := held }
          t.vm.channels[c] =
            (if was c && !serves c then fresh none false
              else if !was c && serves c then fresh (some 0) (!restarted)
              else if restarted then { a with sum := 0, peak := 0, held := false }
              else a)) ∧
        (∀ c, serves c = true → state c ≤ t.vm.v) ∧ (t.vm.v = 0 ∨ ∃ c, serves c = true ∧ state c = t.vm.v) ∧
        (s.tu.active.has .vibAlert = decide (1 ≤ s.vm.v.val) → t.tu.active.has .vibAlert = decide (1 ≤ t.vm.v.val)) ∧
        (s.tu.active.has .vibAlarm = decide (2 ≤ s.vm.v.val) → t.tu.active.has .vibAlarm = decide (2 ≤ t.vm.v.val)) ∧
        (s.tu.active.has .vibTrip = decide (3 ≤ s.vm.v.val) → t.tu.active.has .vibTrip = decide (3 ≤ t.vm.v.val)) ∧
        (∀ w, s.scu.wire = some w → ends w →
          t.scu.wire = none ∧ t.scu.testBits = 0 ∧
          (s.me.mask.getLsbD 9 = true →
            Announced s.me.low t.me.low
              { kind := .wireDone, subject1 := BitVec.ofNat 16 w.channel.val, subject2 := 2, demandCount := s.me.demandCount
                overflow := false })) ∧
        ((∀ w, s.scu.wire = some w → ¬ ends w) → t.scu.wire = s.scu.wire ∧ t.scu.testBits = s.scu.testBits) ∧
        (∀ c : Fin 8, t.scu.checks[c] =
          if was c && !serves c then { s.scu.checks[c] with flat := false, flatRun := 0 } else s.scu.checks[c]) ∧
        t.scu = { s.scu with checks := t.scu.checks, wire := t.scu.wire, testBits := t.scu.testBits } ∧
        (t.tu.active.has .sensorFlat = true ↔ ∃ c : Fin 8, t.scu.checks[c].flat = true) ∧
        CauseFrame { u with vm := t.vm, scu := t.scu } t
      | .action =>
        t = u.reconsider ∧ CauseFrame u t ∧ t.tu.latched = s.tu.latched ∧ t.cb = s.cb ∧ t.rs = s.rs ∧
        (t.tu.drive = s.tu.drive ∨ t.tu.drive ≠ .tripped → t.tu.active = s.tu.active)
      | .line =>
        let o := old.line.marker
        let n := new.line.marker
        let silence := min s.mt.silence n.maxPeriod
        t.mt =
          (if n = o then s.mt
            else if n.edge ≠ o.edge then { state := .acquiring, counter := 0, lastPeriod := s.mt.lastPeriod, silence := silence }
            else if n.maxPeriod ≤ s.mt.counter then
              { state := .lost, counter := 0, lastPeriod := s.mt.lastPeriod, silence := silence }
            else { s.mt with silence := silence }) ∧
        (n ≠ o →
          t.tu.active.has .markerLost = (decide (t.mt.state = .lost) && t.running && decide (n.maxPeriod ≤ t.mt.silence))) ∧
        (∀ x : Fin 4,
          let raw := s.tu.tin[x].raw
          let sense := (new.line.tin[x]).sense
          t.tu.tin[x] = { raw := raw, filtered := raw, stable := 0 } ∧
          t.tu.active.has (.tin x) = decide ((sense = .levelLow ∧ raw = .low) ∨ (sense = .levelHigh ∧ raw = .high)) ∧
          t.tu.latched.has (.tin x) =
            (s.tu.latched.has (.tin x) ||
              (t.tu.active.has (.tin x) && !s.tu.active.has (.tin x) && (s.act.action[Cause.tin x]).latch))) ∧
        (∀ l, t.link l = { s.link l with
          relock := if l ≠ .C ∧ (new.linkEntry l).relock ≠ (old.linkEntry l).relock then (new.linkEntry l).relock
            else (s.link l).relock }) ∧
        (s.cb.state = .triggered → t.cb.remaining = s.cb.remaining) ∧
        CauseFrame { u with
          mt := t.mt, tu := { s.tu with tin := t.tu.tin }, linkA := t.linkA, linkB := t.linkB, linkS := t.linkS } t)

/-- Each Demand acted on has one Report, assembled from the state the Demand leaves, field by field as R48 lists them, with the
request-dropped flag as it stood, and the flag is clear after it (R28, R48, R174). It is sent at once on an idle line, else it waits, in
place of one that waits already (R164). With no switch pending, the blocks the Demand does not work on stand as they were. -/
def Obligations.DemandHandsOneReport : Prop :=
  ∀ (f : DemandFrame) (s : State), s.inReset = false → s.linkC.state = .locked →
    ∃ t, exec (.demand f) s = .next t ∧
      let reading (d : LimitedDemand) (x : Regulator) : MotorReading :=
        { iqLimited := d.iq, idMeas := x.idMeas, iqMeas := x.iqMeas, udc := x.udcLast, temp := x.tempLast }
      let r : Report :=
        { seq := f.seq, drive := t.tu.drive, e := t.tu.e, reason := t.tu.reason, dropped := s.me.dropped
          marker := t.mt.state, band := t.torqueBand, v := t.vm.v, worst := t.worst
          waiting := t.me.high.length + t.me.low.length, lastPeriod := t.mt.lastPeriod
          a := reading t.tl.ldA t.regA, limitA := t.tl.ldA.limit, b := reading t.tl.ldB t.regB, limitB := t.tl.ldB.limit
          h := t.tl.h, active := t.tu.active, latched := t.tu.latched }
      (s.up.sending = .idle → t.up = { s.up with sending := .report r } ∧ t.sent = .report r :: s.sent) ∧
      (s.up.sending ≠ .idle → t.up = { s.up with waiting := some r } ∧ t.sent = s.sent) ∧
      t.me.dropped = false ∧ t.linkC = { s.linkC with timer := some 0 } ∧ t.time = s.time ∧ t.draws = s.draws ∧
      t.pending = s.pending ∧ t.pins = s.pins ∧ t.held = s.held ∧ t.supply = s.supply ∧
      ((∀ tb, s.me.pendingSwitch.get tb = false) →
        t.regA = { s.regA with intD := t.regA.intD, intQ := t.regA.intQ, age := 0 } ∧
        t.regB = { s.regB with intD := t.regB.intD, intQ := t.regB.intQ, age := 0 } ∧
        t.mt = { s.mt with silence := t.mt.silence } ∧ t.vm = s.vm ∧ t.scu = s.scu ∧
        t.linkA = s.linkA ∧ t.linkB = s.linkB ∧ t.linkS = s.linkS ∧
        t.tu.tin = s.tu.tin ∧ t.tu.restart = s.tu.restart ∧
        t.cb = { s.cb with
          state := t.cb.state, remaining := t.cb.remaining, causes := t.cb.causes, short := t.cb.short,
          cadence := t.cb.cadence } ∧
        t.rs = { s.rs with
          array := t.rs.array, state := t.rs.state, gathering := t.rs.gathering, queue := t.rs.queue,
          writeSlot := t.rs.writeSlot } ∧
        t.me = { s.me with
          demandCount := s.me.demandCount + 1, dropped := false, high := t.me.high, low := t.me.low })

/-- The watches of a Demand acted on. The overload accumulator and its latch (R40, R41), with no TORQUE switch pending: the excess over the rating
is added up to 2,000,000,000, decay is taken at or below it down to 0; the latch sets at acc_max and clears at acc_release, and OVERLOAD
follows it. The imbalance and the stall watch, where the Demand finds and leaves the drive in RUN or HOLD with no switch pending (R43 to R45):
the runs, IMBALANCE after imb_count Demands, and STALL where a demand was clamped with the silence time at or above stall_time. -/
def Obligations.DemandWatches : Prop :=
  (∀ (f : DemandFrame) (s : State), s.inReset = false → s.linkC.state = .locked → s.me.pendingSwitch.torque = false →
    ∃ t, exec (.demand f) s = .next t ∧
      let k := s.act.torque.scalars
      let total := s.regA.iqMeas.natAbs + s.regB.iqMeas.natAbs
      t.tl.acc =
        (if k.lcontTotal < total then min (s.tl.acc + (total - k.lcontTotal)) 2000000000
          else if k.decay ≤ s.tl.acc then s.tl.acc - k.decay else 0) ∧
      t.tl.latch = (if s.tl.latch then !decide (t.tl.acc ≤ k.accRelease) else decide (k.accMax ≤ t.tl.acc)) ∧
      (s.tu.active.has .overload = s.tl.latch → t.tu.active.has .overload = t.tl.latch)) ∧
  (∀ (f : DemandFrame) (s t : State),
    s.inReset = false → s.linkC.state = .locked → (∀ tb, s.me.pendingSwitch.get tb = false) →
    s.running = true → exec (.demand f) s = .next t → t.running = true →
    let signed (w : Word) : Int := if w.toInt = -32768 then -32767 else w.toInt
    let k := s.act.torque.scalars
    let a := s.regA.iqMeas.natAbs
    let b := s.regB.iqMeas.natAbs
    let unequal := decide (k.imbThr < ((a : Int) - b).natAbs ∧ k.imbMin ≤ a + b)
    let clamped := decide (t.tl.ldA.limit < (signed f.a.iq).natAbs ∨ t.tl.ldB.limit < (signed f.b.iq).natAbs)
    (s.tu.active.has .imbalance = false →
      (unequal = true → k.imbCount ≤ min (s.tl.upRun + 1) 65535 →
        t.tu.active.has .imbalance = true ∧ t.tl.upRun = 0 ∧ t.tl.downRun = 0) ∧
      (unequal = true → min (s.tl.upRun + 1) 65535 < k.imbCount →
        t.tu.active.has .imbalance = false ∧ t.tl.upRun = min (s.tl.upRun + 1) 65535 ∧ t.tl.downRun = s.tl.downRun) ∧
      (unequal = false → t.tu.active.has .imbalance = false ∧ t.tl.upRun = 0 ∧ t.tl.downRun = s.tl.downRun)) ∧
    (s.tu.active.has .imbalance = true →
      (unequal = false → k.imbCount ≤ min (s.tl.downRun + 1) 65535 →
        t.tu.active.has .imbalance = false ∧ t.tl.upRun = 0 ∧ t.tl.downRun = 0) ∧
      (unequal = false → min (s.tl.downRun + 1) 65535 < k.imbCount →
        t.tu.active.has .imbalance = true ∧ t.tl.downRun = min (s.tl.downRun + 1) 65535 ∧ t.tl.upRun = s.tl.upRun) ∧
      (unequal = true → t.tu.active.has .imbalance = true ∧ t.tl.downRun = 0 ∧ t.tl.upRun = s.tl.upRun)) ∧
    t.tu.active.has .stall =
      (s.tu.active.has .stall || (clamped && decide (k.stallTime ≤ s.mt.silence))))

/-- Stage 6 of a Demand, where it stands in a Demand and what it does (R29, R46, R102, R103, with the entry effects of R17, R38, R54, R105
and R106): a clear flag stops a running drive, a rising edge in STOPPED starts it when every condition holds and is refused with the first
reason that applies otherwise, one in TRIPPED is refused; a held flag requests nothing; the previous start flag is taken. A stop and a start
queue their DRIVE_STATE notice, and the CAUSE_CLEARED notices of the stop follow it (R97, R107), in the order of log entry 41. What a rising
edge in RUN or HOLD does is log entry 10. A Demand acted on answers what stages 6 and 7 make of the state `w` that its first five stages
leave, whose previous start flag is that of the last Demand acted on: so a clear flag leaves no drive in RUN or HOLD, and an allowed rising
edge leaves a STOPPED one in RUN. -/
def Obligations.StartIsJudgedAtTheEdge : Prop :=
  (∀ (f : DemandFrame) (s : State), s.inReset = false → s.linkC.state = .locked →
    let u := State.updateOverload (State.switchTables
      { s.heardC with
        me := { s.me with demandCount := s.me.demandCount + 1 }
        tl := { s.tl with lastSeq := f.seq } })
    let w := ((u.storeDemands f).watchImbalance).watchStall (u.anyClamped f)
    let t := (w.handStart f.start).makeReport
    exec (.demand f) s = .next t ∧
    w.tl.prevStart = s.tl.prevStart ∧ t.tl.prevStart = f.start ∧
    t.tu = (w.handStart f.start).tu ∧ t.regA = (w.handStart f.start).regA ∧ t.regB = (w.handStart f.start).regB ∧
    t.me.high = (w.handStart f.start).me.high ∧ t.me.low = (w.handStart f.start).me.low ∧
    (f.start = false → t.tu.drive ≠ .run ∧ t.tu.drive ≠ .hold) ∧
    (f.start = true → s.tl.prevStart = false → w.tu.drive = .stopped → w.regA.calibrated = true → w.regB.calibrated = true →
      w.regA.calibration = none → w.regB.calibration = none → w.linkA.state = .locked → w.linkB.state = .locked →
      w.tu.e ≠ .hold → w.tu.e ≠ .trip → t.tu.drive = .run ∧ t.tu.reason = .none ∧ t.tl.h = 32767)) ∧
  ∀ (s : State) (start : Bool),
    let t := s.handStart start
    let clears (u : State) (c : Cause) : State :=
      if s.tu.active.has c = true ∧ s.acting c ≠ .ignore then
        u.notify .causeCleared (BitVec.ofNat 16 c.val) 0 (s.act.action[c]).priority
      else u
    let rising := start && !s.tl.prevStart
    let allowed := s.regA.calibrated && s.regB.calibrated && s.regA.calibration.isNone && s.regB.calibration.isNone &&
      decide (s.linkA.state = .locked ∧ s.linkB.state = .locked) && decide (s.tu.e ≠ .hold ∧ s.tu.e ≠ .trip)
    let reason : StartReason :=
      if s.regA.calibration.isSome || s.regB.calibration.isSome then .calibrating
      else if !(s.regA.calibrated && s.regB.calibrated) then .notCalibrated
      else if ¬ (s.linkA.state = .locked ∧ s.linkB.state = .locked) then .linkNotLocked
      else .actionAtHoldOrAbove
    t.tl.prevStart = start ∧
    (start = false →
      t.tu.reason = .none ∧
      (s.running = false → t = { s with
        tu := { s.tu with reason := .none }
        tl := { s.tl with prevStart := false } }) ∧
      (s.running = true → s.effective ≠ .trip →
        t.tu.drive = .stopped ∧ t.regA.intD = 0 ∧ t.regA.intQ = 0 ∧ t.regB.intD = 0 ∧ t.regB.intQ = 0 ∧
        t.tl.upRun = 0 ∧ t.tl.downRun = 0 ∧ t.tl.h = s.tl.h ∧ t.tu.tout = s.tu.tout ∧
        t.tu.active.has .imbalance = false ∧ t.tu.active.has .stall = false ∧ t.tu.active.has .markerLost = false ∧
        t.me = (clears (clears (clears (s.notify .driveState 0 0 .high) .imbalance) .stall) .markerLost).me)) ∧
    (start = true → s.tl.prevStart = true →
      t = { s with
        tu := { s.tu with reason := if s.running then .none else .noRisingEdge }
        tl := { s.tl with prevStart := true } }) ∧
    (rising = true → s.tu.drive = .stopped → allowed = true →
      t.tu.drive = .run ∧ t.tu.reason = .none ∧ t.tl.h = 32767 ∧ t.mt = { s.mt with silence := 0 } ∧
      t.regA = { s.regA with intD := 0, intQ := 0 } ∧ t.regB = { s.regB with intD := 0, intQ := 0 } ∧
      t.tu.active = s.tu.active ∧ t.tu.latched = s.tu.latched ∧ t.tu.e = s.tu.e ∧
      t.me = (s.notify .driveState 1 0 .high).me) ∧
    (rising = true → (s.tu.drive = .stopped ∧ allowed = false) ∨ s.tu.drive = .tripped →
      t = { s with
        tu := { s.tu with reason := reason }
        tl := { s.tl with prevStart := true } }) ∧
    (rising = true → s.running = true →
      t = { s with
        tu := { s.tu with reason := .none }
        tl := { s.tl with prevStart := true } })

/-! ## The kiln revolution marker (chapter 03) -/

/-- ACTIVE_EDGE (R50, R52): where MK holds the level the edge would bring, nothing has changed level and nothing happens (log entry 27); an
edge of the other kind and a glitch below min_period change nothing but the level of MK; an accepted edge clears the counter and the silence
time, gives the last period where the marker was not Lost, moves the marker on, and leaves STALL and MARKER_LOST inactive, each by a clear
of R97 (their order is log entry 41). The millisecond step of the marker timer (R51, R53, R55): MARKER_TIMER_STEP takes it always;
MARKER_EXPIRY where it brings the counter to max_period; SILENCE_TIME_REACHED where, in Lost with the drive in RUN or HOLD, it brings the
silence time there without an expiry; and a command whose step is not the one named changes nothing (log entry 3). The speed bands (R56,
R57): 0 out of Tracking; in Tracking the number of thresholds the last period is below, which with the strictly descending thresholds that
SWITCH BANK requires places the period between two neighbours. -/
def Obligations.MarkerTakesEdgesAndStepsAndPlacesBands : Prop :=
  ((∀ (e : Edge) (s : State), s.inReset = false →
    let level : Level := match e with
      | .rising => .high
      | .falling => .low
    let k := s.act.line.marker
    (s.pins.marker = level → exec (.activeEdge e) s = .next s) ∧
    (e ≠ k.edge ∨ s.mt.counter < k.minPeriod →
      exec (.activeEdge e) s = .next { s with pins := { s.pins with marker := level } }) ∧
    (s.pins.marker ≠ level → e = k.edge → k.minPeriod ≤ s.mt.counter →
      ∃ t, exec (.activeEdge e) s = .next t ∧
        t.mt =
          { state := if s.mt.state = .lost then .acquiring else .tracking
            counter := 0
            lastPeriod := if s.mt.state = .lost then s.mt.lastPeriod else s.mt.counter
            silence := 0 } ∧
        t.tu.active.has .stall = false ∧ t.tu.active.has .markerLost = false ∧ t.tu.latched = s.tu.latched ∧
        CauseFrame { s with pins := { s.pins with marker := level }, mt := t.mt } t ∧
        t = (State.clearCause { s with pins := { s.pins with marker := level }, mt := t.mt } .stall).clearCause .markerLost ∧
        (∀ c, c ≠ .stall → c ≠ .markerLost → DriveInv s → t.tu.active.has c = s.tu.active.has c))) ∧
  (∀ s : State, s.inReset = false →
    let top := s.act.line.marker.maxPeriod
    let expires := decide (top ≤ s.mt.counter + 1)
    let mt : MarkerTimer :=
      { state := if expires then .lost else s.mt.state
        counter := if expires then 0 else s.mt.counter + 1
        lastPeriod := s.mt.lastPeriod
        silence := min (s.mt.silence + 1) top }
    let u := { s with mt := mt }
    let lost := decide (mt.state = .lost) && s.running && decide (top ≤ mt.silence)
    let v := if lost then u.raise .markerLost else u
    exec .markerTimerStep s = .next v ∧
    exec .markerExpiry s = .next (if expires then v else s) ∧
    exec .silenceTimeReached s = .next
      (if !expires && decide (s.mt.state = .lost) && s.running && decide (s.mt.silence + 1 = top) then v else s))) ∧
  (∀ s : State, s.act.offending .torque = none → s.act.offending .vibration = none →
    let p (n : Fin 8) : Nat := s.act.torque.bands[n].period
    let k := s.act.vibration.scalars
    let x := s.mt.lastPeriod
    (s.mt.state ≠ .tracking → s.torqueBand = 0 ∧ s.vibrationBand = 0) ∧
    (s.mt.state = .tracking →
      s.torqueBand ≤ 7 ∧ (s.torqueBand = 0 ↔ p 1 ≤ x) ∧ (s.torqueBand = 7 ↔ x < p 7) ∧
      (s.torqueBand = 1 ↔ x < p 1 ∧ p 2 ≤ x) ∧ (s.torqueBand = 2 ↔ x < p 2 ∧ p 3 ≤ x) ∧
      (s.torqueBand = 3 ↔ x < p 3 ∧ p 4 ≤ x) ∧ (s.torqueBand = 4 ↔ x < p 4 ∧ p 5 ≤ x) ∧
      (s.torqueBand = 5 ↔ x < p 5 ∧ p 6 ≤ x) ∧ (s.torqueBand = 6 ↔ x < p 6 ∧ p 7 ≤ x) ∧
      s.vibrationBand ≤ 3 ∧ (s.vibrationBand = 0 ↔ k.vp1 ≤ x) ∧ (s.vibrationBand = 1 ↔ x < k.vp1 ∧ k.vp2 ≤ x) ∧
      (s.vibrationBand = 2 ↔ x < k.vp2 ∧ k.vp3 ≤ x) ∧ (s.vibrationBand = 3 ↔ x < k.vp3)))

/-! ## The vibration watch and the sensor checks (chapters 04 and 05) -/

/-- SWEEP on an S-link that is not DOWN (R60 to R62, R153, R160): every good Sweep is answered by one Sweep Order with G and, on a LOCKED
link, the test bits as the Sweep leaves them; one whose group-size echo is not G is set aside, and on a link that is not LOCKED none is
taken and the link makes the transition of a good frame (R154). A frame whose length is not the one its echo fixes is discarded. That a
Sweep whose values do not fit its echo stands for such a frame is log entry 26. A DOWN link and a part in reset, or without supply (log entry
11), do not see it. -/
def Obligations.SweepIsAnswered : Prop :=
  ∀ (f : SweepFrame) (s : State),
    (s.inReset = true ∨ s.linkS.state = .down → exec (.sweep f) s = .next s) ∧
    (s.inReset = false → s.linkS.state ≠ .down → f.lengthOk = false → exec (.sweep f) s = exec (.frameDiscarded .S) s) ∧
    (s.inReset = false → s.linkS.state ≠ .down → f.lengthOk = true →
      ∃ t, exec (.sweep f) s = .next t ∧
        t.sent = .sweepOrder
          { testBits := if s.linkS.state = .locked then t.scu.testBits else 0, group := s.act.vibration.scalars.g } :: s.sent ∧
        (s.linkS.state = .locked → f.group.toNat ≠ s.act.vibration.scalars.g →
          t = { s with linkS := { s.linkS with timer := some 0 }, sent := t.sent }) ∧
        t.linkS = (s.goodFrame .S).linkS ∧
        (s.linkS.state ≠ .locked → t = State.goodFrame { s with sent := t.sent } .S) ∧
        CauseFrame { s with vm := t.vm, scu := t.scu, linkS := t.linkS, sent := t.sent } t)

/-- What a taken Sweep does to each channel (R65 to R68, R71): in service, the running mean and the filtered value, the sum of squares, the
peak and the held mark; at the close of a window the readings, the grading of an evaluating channel, the runs of another one cleared, and
the window restarted. The close judges each channel in service for flatness, on the mean square of its window, exactly when its held mark
is clear, the marker is Tracking and the vibration band is 1 or more (R83; the run that stays at its count is log entry 13), and SENSOR_FLAT
is active exactly while some flag is set (R84). V is the highest state in service (R72). A channel out of service is not touched (R63). -/
def Obligations.TakenSweepFiltersAndCloses : Prop :=
  ∀ (f : SweepFrame) (s : State),
    s.inReset = false → s.linkS.state = .locked → f.lengthOk = true → f.group.toNat = s.act.vibration.scalars.g →
    ∃ t, exec (.sweep f) s = .next t ∧
      let signed (w : Word) : Int := if w.toInt = -32768 then -32767 else w.toInt
      let sat (x : Int) : Int := max (-32767) (min x 32767)
      let k := s.act.vibration.scalars
      let closes := decide (2 ^ k.w ≤ s.vm.window + 1)
      t.vm.window = (if closes then 0 else s.vm.window + 1) ∧
      (closes = false → t.vm.v = s.vm.v) ∧
      (closes = true →
        let state (c : Fin 8) : Grade := (t.vm.channels[c]).grade.getD 0
        (∀ c, s.inService c = true → state c ≤ t.vm.v) ∧
        (t.vm.v = 0 ∨ ∃ c, s.inService c = true ∧ state c = t.vm.v) ∧
        (t.tu.active.has .sensorFlat = true ↔ ∃ c : Fin 8, t.scu.checks[c].flat = true)) ∧
      ∀ c : Fin 8,
        let a := s.vm.channels[c]
        let b := t.vm.channels[c]
        let x := signed (f.values.getD c.val 0)
        let y := sat (x - a.mean / 65536)
        let mean := a.mean + (x * 65536 - a.mean) / (2 ^ k.k : Nat)
        let sum := a.sum + y.natAbs * y.natAbs
        let peak := max a.peak y.natAbs
        let held := a.held || s.scu.testing c || s.scu.checks[c].wireFault || t.scu.refFail
        let x0 := s.scu.checks[c]
        let x1 := t.scu.checks[c]
        let ms := sum / 2 ^ k.w
        let judged := !held && decide (s.mt.state = .tracking) && decide (1 ≤ s.vibrationBand)
        (s.inService c = false ∨ closes = false → x1.flat = x0.flat ∧ x1.flatRun = x0.flatRun) ∧
        (s.inService c = true → closes = true →
          (judged = true → ms < k.flatFloor →
            x1.flatRun = (if x0.flat = true ∧ k.flatCount ≤ x0.flatRun then x0.flatRun else x0.flatRun + 1) ∧
            x1.flat = (x0.flat || decide (k.flatCount ≤ x0.flatRun + 1))) ∧
          (judged = true → k.flatFloor ≤ ms → x1.flatRun = 0 ∧ x1.flat = false) ∧
          (judged = false → x1.flatRun = 0 ∧ x1.flat = x0.flat)) ∧
        (s.inService c = false → b = a) ∧
        (s.inService c = true → closes = false →
          b = { a with mean := mean, sum := sum, peak := peak, held := held }) ∧
        (s.inService c = true → closes = true →
          b.mean = mean ∧ b.sum = 0 ∧ b.peak = 0 ∧ b.held = false ∧ b.peakLast = peak ∧
          b.rmsLast * b.rmsLast ≤ sum / 2 ^ k.w ∧ sum / 2 ^ k.w < (b.rmsLast + 1) * (b.rmsLast + 1) ∧
          let vb : Fin 4 := Fin.ofNat 4 s.vibrationBand
          let e := s.act.vibration.channels[c]
          let evaluating :=
            !held && !t.scu.testing c && !t.scu.checks[c].wireFault && !t.scu.checks[c].flat && !t.scu.refFail
          let d := a.graded (gradeOf b.rmsLast 0 e.alert[vb] e.alarm[vb] e.trip[vb])
            (gradeOf b.rmsLast k.hyst e.alert[vb] e.alarm[vb] e.trip[vb]) k.pUp k.pDown
          (evaluating = true → b.grade = d.grade ∧ b.upCount = d.upCount ∧ b.downCount = d.downCount) ∧
          (evaluating = false → b.grade = a.grade ∧ b.upCount = 0 ∧ b.downCount = 0))

/-- One graded close (R68 to R70) and one flat judgement (R83). The grades are the highest threshold the rms is at or above, the release
grade with the hysteresis taken off; the up-run raises the state to its lowest grade after P_up closes above it, the down-run lowers
it by one after P_down closes whose release grade is below it. A judged window below flat_floor counts toward flat_count, one at or
above it clears the flag; a run that has set the flag at or above flat_count stays at its count (log entry 13). A channel is in service
that is enabled and below G (R63). The worst channel (R73): none with no channel in service, else the one in service with the highest
state, then the highest rms_last, then the lowest number. -/
def Obligations.ChannelsAreJudgedByRuns : Prop :=
  (∀ rms hyst alert alarm trip : Nat, alert ≤ alarm → alarm ≤ trip →
    let r := gradeOf rms hyst alert alarm trip
    (r = 3 ↔ (trip : Int) - hyst ≤ rms) ∧ (2 ≤ r ↔ (alarm : Int) - hyst ≤ rms) ∧ (1 ≤ r ↔ (alert : Int) - hyst ≤ rms) ∧
    gradeOf rms 0 alert alarm trip ≤ r) ∧
  (∀ (c : Channel) (s g r : Grade) (pUp pDown : Nat), c.grade = some s → g ≤ r → 1 ≤ pUp → 1 ≤ pDown →
    let d := c.graded g r pUp pDown
    let low := if c.upCount = 0 then g else min c.upLowest g
    (s < g → pUp ≤ c.upCount + 1 → d.grade = some low ∧ d.upCount = 0 ∧ d.downCount = 0) ∧
    (s < g → c.upCount + 1 < pUp →
      d.grade = some s ∧ d.upCount = c.upCount + 1 ∧ d.upLowest = low ∧ d.downCount = 0) ∧
    (g ≤ s → s ≤ r → d.grade = some s ∧ d.upCount = 0 ∧ d.downCount = 0) ∧
    (r < s → pDown ≤ c.downCount + 1 →
      d.grade.map Fin.val = some (s.val - 1) ∧ d.upCount = 0 ∧ d.downCount = 0) ∧
    (r < s → c.downCount + 1 < pDown → d.grade = some s ∧ d.upCount = 0 ∧ d.downCount = c.downCount + 1)) ∧
  (∀ s : State,
    (∀ c : Fin 8, s.inService c =
      ((s.act.vibration.channels[c]).enable && decide (c.val < s.act.vibration.scalars.g))) ∧
    ((∀ c, s.inService c = false) → s.worst = none ∧ s.worstRms = 0) ∧
    ((∃ c, s.inService c = true) → s.worst.isSome = true) ∧
    (∀ c, s.worst = some c →
      let state (d : Fin 8) : Grade := (s.vm.channels[d]).grade.getD 0
      let rms (d : Fin 8) : Nat := (s.vm.channels[d]).rmsLast
      s.inService c = true ∧ s.worstRms = rms c ∧
      ∀ d, s.inService d = true → d ≠ c →
        state d < state c ∨ (state d = state c ∧ (rms d < rms c ∨ (rms d = rms c ∧ c < d))))) ∧
  (∀ (k : ChannelCheck) (ms flatFloor flatCount : Nat),
    let d := k.judgeFlat true ms flatFloor flatCount
    (ms < flatFloor → k.flat = true → flatCount ≤ k.flatRun → d = k) ∧
    (ms < flatFloor → (k.flat = false ∨ k.flatRun < flatCount) →
      d.flatRun = k.flatRun + 1 ∧ d.flat = (k.flat || decide (flatCount ≤ k.flatRun + 1))) ∧
    (flatFloor ≤ ms → d.flatRun = 0 ∧ d.flat = false) ∧
    (k.judgeFlat false ms flatFloor flatCount = { k with flatRun := 0 }) ∧ d.wireFault = k.wireFault)

/-- The reference check at each taken Sweep (R81, R82): four in a row outside set ref-fail and raise SENSOR_REF, and end a wire check in
flight, announced by WIRE_DONE with its channel and ABORTED (R90, R166); four in a row inside clear both; −32768 is read as −32767.
Between them the runs count and restart. -/
def Obligations.ReferenceFailsAfterFour : Prop :=
  ∀ (f : SweepFrame) (s : State),
    s.inReset = false → s.linkS.state = .locked → f.lengthOk = true → f.group.toNat = s.act.vibration.scalars.g →
    ∃ t, exec (.sweep f) s = .next t ∧
      let k := s.act.vibration.scalars
      let value := if f.reference.toInt = -32768 then -32767 else f.reference.toInt
      let u := s.scu
      (u.refFail = false → k.refLo ≤ value → value ≤ k.refHi →
        t.scu.refFail = false ∧ t.scu.outRun = 0 ∧ t.scu.inRun = u.inRun) ∧
      (u.refFail = false → ¬ (k.refLo ≤ value ∧ value ≤ k.refHi) → u.outRun < 3 →
        t.scu.refFail = false ∧ t.scu.outRun = u.outRun + 1 ∧ t.scu.inRun = u.inRun) ∧
      (u.refFail = false → ¬ (k.refLo ≤ value ∧ value ≤ k.refHi) → 3 ≤ u.outRun →
        t.scu.refFail = true ∧ t.scu.outRun = 0 ∧ t.scu.inRun = u.inRun ∧ t.tu.active.has .sensorRef = true ∧
        t.scu.wire = none ∧
        ∀ x, u.wire = some x →
          t.scu.testBits = 0 ∧ (t.scu.checks[x.channel]).wireFault = (u.checks[x.channel]).wireFault ∧
          (s.me.mask.getLsbD 9 = true →
            Announced s.me.low t.me.low
              { kind := .wireDone, subject1 := BitVec.ofNat 16 x.channel.val, subject2 := 2, demandCount := s.me.demandCount
                overflow := false })) ∧
      (u.refFail = true → k.refLo ≤ value → value ≤ k.refHi → u.inRun < 3 →
        t.scu.refFail = true ∧ t.scu.inRun = u.inRun + 1 ∧ t.scu.outRun = u.outRun) ∧
      (u.refFail = true → k.refLo ≤ value → value ≤ k.refHi → 3 ≤ u.inRun →
        t.scu.refFail = false ∧ t.scu.inRun = 0 ∧ t.scu.outRun = u.outRun ∧ t.tu.active.has .sensorRef = false) ∧
      (u.refFail = true → ¬ (k.refLo ≤ value ∧ value ≤ k.refHi) →
        t.scu.refFail = true ∧ t.scu.inRun = 0 ∧ t.scu.outRun = u.outRun)

/-- A wire check in flight at a taken Sweep that does not leave ref-fail set (R86 to R88): the Baseline phase counts where the echo of its
channel is clear and sets the test bit at N_w; the Inject phase counts where it is set and at N_w gives the verdict, which sets or
clears the channel's wire-fault flag and, at a failure, latches SENSOR_WIRE, and is announced by WIRE_DONE with the channel and 0 PASS or
1 FAIL (R166). No other channel's flag moves. -/
def Obligations.WireCheckCountsAndJudges : Prop :=
  ∀ (f : SweepFrame) (s : State) (w : WireCheck),
    s.inReset = false → s.linkS.state = .locked → f.lengthOk = true → f.group.toNat = s.act.vibration.scalars.g →
    s.scu.wire = some w →
    ∃ t, exec (.sweep f) s = .next t ∧
      (t.scu.refFail = false →
        let signed (w : Word) : Int := if w.toInt = -32768 then -32767 else w.toInt
        let x := signed (f.values.getD w.channel.val 0)
        let echo := f.testEcho.getLsbD w.channel.val
        let shift := (w.sInject + x - w.sBase).natAbs
        let told (result : Word) : Prop :=
          s.me.mask.getLsbD 9 = true →
            Announced s.me.low t.me.low
              { kind := .wireDone, subject1 := BitVec.ofNat 16 w.channel.val, subject2 := result
                demandCount := s.me.demandCount, overflow := false }
        (∀ c : Fin 8, c ≠ w.channel → t.scu.checks[c].wireFault = s.scu.checks[c].wireFault) ∧
        (w.inject = false → echo = false → w.count + 1 < w.nW →
          t.scu.wire = some { w with sBase := w.sBase + x, count := w.count + 1 } ∧ t.scu.testBits = s.scu.testBits) ∧
        (w.inject = false → echo = false → w.nW ≤ w.count + 1 →
          t.scu.wire = some { w with sBase := w.sBase + x, count := 0, inject := true } ∧
          t.scu.testBits = 1#8 <<< w.channel.val) ∧
        (w.inject = true → echo = true → w.count + 1 < w.nW →
          t.scu.wire = some { w with sInject := w.sInject + x, count := w.count + 1 } ∧
          t.scu.testBits = s.scu.testBits) ∧
        (w.inject = true → echo = true → w.nW ≤ w.count + 1 →
          t.scu.wire = none ∧ t.scu.testBits = 0 ∧
          (w.minShift * w.nW ≤ shift → told 0 ∧ t.scu.checks[w.channel].wireFault = false) ∧
          (shift < w.minShift * w.nW →
            told 1 ∧ t.scu.checks[w.channel].wireFault = true ∧ t.tu.latched.has .sensorWire = true)) ∧
        (w.inject ≠ echo → t.scu.wire = some w ∧ t.scu.testBits = s.scu.testBits) ∧
        (t.scu.wire ≠ none → t.scu.checks[w.channel].wireFault = s.scu.checks[w.channel].wireFault))

/-! ## Causes, actions and the drive state (chapter 06) -/

/-- A raise (R95, R96, R98, R100). The event causes are SENSOR_WIRE (18), REQUESTED_TRIP (28), RESTART (29) and the trip inputs with an edge
sense (R93, R113). A level cause already active changes nothing; an event cause enters the latched set alone, a level cause
the active set and, where its latch field is on, the latched set; E is the highest acting action over both sets; the drive goes where
R101 sends it, and an entry to TRIPPED takes its effects (R17, R104). Nothing but what a cause event touches moves. -/
def Obligations.RaiseEntersTheSets : Prop :=
  ∀ (s : State) (c : Cause), DriveInv s →
    let t := s.raise c
    let runOnly : Cause → Bool := fun d => d == .stall || d == .imbalance || d == .markerLost
    let trips := decide (s.tu.drive ≠ .tripped ∧ t.tu.drive = .tripped)
    (∀ x : Fin 4,
      s.isEvent (.tin x) =
        decide ((s.act.line.tin[x]).sense = .falling ∨ (s.act.line.tin[x]).sense = .rising ∨
          (s.act.line.tin[x]).sense = .bothEdges)) ∧
    (∀ d : Cause, 4 ≤ d.val → s.isEvent d = decide (d.val = 18 ∨ d.val = 28 ∨ d.val = 29)) ∧
    CauseFrame s t ∧ t.tu.e = t.effective ∧
    (s.isEvent c = false → s.tu.active.has c = true → t = s) ∧
    (∀ d, t.tu.latched.has d =
      (s.tu.latched.has d ||
        (d == c && (s.isEvent c || (!s.tu.active.has c && (s.act.action[c]).latch))))) ∧
    (∀ d, t.tu.active.has d =
      ((s.tu.active.has d || (d == c && !s.isEvent c)) && !(trips && s.running && runOnly d))) ∧
    (s.isEvent c = true ∨ s.tu.active.has c = false →
      (s.acting c = .trip → t.tu.drive = .tripped) ∧
      (s.acting c = .hold → t.tu.drive = if s.tu.drive = .run then .hold else s.tu.drive) ∧
      (s.acting c ≠ .trip → s.acting c ≠ .hold → t.tu.drive = s.tu.drive)) ∧
    (trips = true → t.tu.tout = true ∧
      t.regA.intD = 0 ∧ t.regA.intQ = 0 ∧ t.regB.intD = 0 ∧ t.regB.intQ = 0) ∧
    (trips = false → t.regA = s.regA ∧ t.regB = s.regB ∧ t.tl = s.tl ∧ t.tu.tout = s.tu.tout)

/-- What a raise and a clear hand on. A raise (R96, R107, R122, R123, R125, R133 to R135, R137): nothing for a cause acting at Ignore; else, in
this order, its CAUSE_RAISED notice in the queue of its priority field; where it moves the drive, a DRIVE_STATE notice with the new state, and
at an entry to TRIPPED out of RUN or HOLD the CAUSE_CLEARED notices of the run-only causes that were active (R104; their order is log entry
41); the capture trigger where the capture field is on, which with N_post 0 freezes and announces the capture at once; and the log entry
where the log field is on, with the contents of the moment, the drive state and E as the raise leaves them, bound to the capture its own
trigger started and closed with its summary where that froze at once. A clear (R97): the cause leaves the active set and the latched set
keeps it; CAUSE_CLEARED is queued unless the cause acts at Ignore; a drive in HOLD with E below Hold returns to RUN with its notice; nothing
is triggered or logged. A kind that the mask disables is not queued (State.notify, see NoticesQueueAndSlotsCarryThem). -/
def Obligations.RaiseAndClearAnnounceTriggerAndLog : Prop :=
  let told (s : State) (c : Cause) (k : NoticeKind) : State :=
    if s.acting c = .ignore then s else s.notify k (BitVec.ofNat 16 c.val) 0 (s.act.action[c]).priority
  let moved (s : State) (d : DriveState) : State :=
    if s.tu.drive = d then s
    else
      s.notify .driveState
        (match d with
          | .stopped => 0
          | .run => 1
          | .hold => 2
          | .tripped => 3) 0 .high
  (∀ (s : State) (c : Cause), DriveInv s → (s.isEvent c = true ∨ s.tu.active.has c = false) →
    let t := s.raise c
    let entry := s.act.action[c]
    let nPost := s.act.line.nPost
    let starts := entry.capture && decide (s.cb.state = .armed)
    let clears (u : State) (d : Cause) : State :=
      if s.running = true ∧ t.tu.drive = .tripped ∧ (s.tu.active.has d = true ∨ (d = c ∧ s.isEvent c = false)) then
        told u d .causeCleared
      else u
    let u := clears (clears (clears (moved (told s c .causeRaised) t.tu.drive) .imbalance) .stall) .markerLost
    (s.acting c = .ignore → t = { s with tu := t.tu }) ∧
    (s.acting c ≠ .ignore →
      t.me = (if starts = true ∧ nPost = 0 then u.notify .captureFrozen (BitVec.ofNat 16 c.val) 0 .low else u).me ∧
      (starts = true →
        t.cb = { s.cb with
          state := if nPost = 0 then .frozen else .triggered
          causes := [.cause c], short := false, remaining := nPost
          cadence := if nPost = 0 then none else some 0 }) ∧
      (entry.capture = true → s.cb.state = .triggered →
        t.cb = { s.cb with causes := if s.cb.causes.length < 4 then s.cb.causes ++ [.cause c] else s.cb.causes }) ∧
      (entry.capture = false ∨ s.cb.state = .disarmed ∨ s.cb.state = .frozen → t.cb = s.cb) ∧
      (entry.log = false → t.rs = s.rs) ∧
      (entry.log = true →
        let fresh : Record :=
          { openedAt := s.rs.clock, seconds := s.me.seconds, timeSet := s.me.timeSet, first := c, drive := t.tu.drive
            e := t.tu.e, marker := s.mt.state, lastPeriod := s.mt.lastPeriod, band := s.torqueBand, a := s.reading .A
            b := s.reading .B, v := s.vm.v, worst := s.worst, worstRms := s.worstRms
            restart := if c = .restart then some s.tu.restart else none
            causes := [], further := 0, merged := false, summary := none }
        let joins (r : Record) : Record :=
          if r.causes.length < 8 then
            { r with causes := r.causes ++ [(c, min (s.rs.clock - r.openedAt) 65535)] }
          else { r with further := min (r.further + 1) 255 }
        let g : Gathering := match s.rs.gathering with
          | none => { record := fresh, timer := some 0, bound := false }
          | some g => { g with record := joins g.record }
        t.rs =
          if starts = true ∧ nPost = 0 then
            RecordStore.writeIfIdle
              { s.rs with
                gathering := none
                queue := enqueueRecord s.rs.queue { g.record with summary := some t.cb.summary } }
          else { s.rs with gathering := some (if starts then { g with timer := none, bound := true } else g) }))) ∧
  (∀ (s : State) (c : Cause), DriveInv s →
    let t := s.clearCause c
    (s.tu.active.has c = false → t = s) ∧
    (s.tu.active.has c = true →
      (∀ d, t.tu.active.has d = (s.tu.active.has d && decide (d ≠ c))) ∧ t.tu.latched = s.tu.latched ∧
      t.tu.e = t.effective ∧ t.tu.drive = (if s.tu.drive = .hold ∧ t.tu.e ≠ .hold then .run else s.tu.drive) ∧
      t = { s with
        tu := { s.tu with active := t.tu.active, e := t.tu.e, drive := t.tu.drive }
        me := (moved (told s c .causeCleared) t.tu.drive).me }))

/-- The judgement of the drive state against E (R101): the nine rows of its table, with the hold factor kept at every one of them. The
acting action of a cause is the higher of its entry's action field (R94) and the fixed minimum of R93's table: Trip for TIN0 (0), OVERCURRENT
(4, 5), MODULE (6, 7), OVERVOLT (10, 11), LINK_A_LOST (25), LINK_B_LOST (26), REQUESTED_TRIP (28) and RESTART (29), Hold for DEMAND_LOST (24),
none otherwise; E is the highest over both sets (R98). -/
def Obligations.DriveIsJudgedAgainstE : Prop :=
  ∀ s : State,
    let t := s.reconsider
    let e := s.effective
    (s.tu.drive = .stopped → e = .trip → t.tu.drive = .tripped) ∧
    (s.tu.drive = .stopped → e ≠ .trip → t = { s with tu := { s.tu with e := e } }) ∧
    (s.tu.drive = .run → e = .trip → t.tu.drive = .tripped) ∧
    (s.tu.drive = .run → e = .hold → t.tu.drive = .hold) ∧
    (s.tu.drive = .run → e ≠ .trip → e ≠ .hold → t = { s with tu := { s.tu with e := e } }) ∧
    (s.tu.drive = .hold → e = .trip → t.tu.drive = .tripped) ∧
    (s.tu.drive = .hold → e = .hold → t = { s with tu := { s.tu with e := e } }) ∧
    (s.tu.drive = .hold → e ≠ .trip → e ≠ .hold → t.tu.drive = .run) ∧
    (s.tu.drive = .tripped → t = { s with tu := { s.tu with e := e } }) ∧
    t.tl.h = s.tl.h ∧ (∀ c : Cause,
      let field := (s.act.action[c]).action
      s.acting c =
        if c.val ∈ [0, 4, 5, 6, 7, 10, 11, 25, 26, 28, 29] then .trip
        else if c.val = 24 then if field = .trip then .trip else .hold
        else field) ∧
    (∀ c, s.tu.active.has c = true ∨ s.tu.latched.has c = true → (s.acting c).code ≤ e.code) ∧
    (e = .ignore ∨ ∃ c, (s.tu.active.has c = true ∨ s.tu.latched.has c = true) ∧ s.acting c = e)

/-- The trip inputs (R111 to R113). TRIP_INPUT_CHANGE takes the level; a change restarts the stable time and, with a min_duration of 0,
makes a filtered transition at once. FILTERED_TRANSITION is the step that brings the stable time of an input whose levels differ to
min_duration. At a filtered transition a level sense
makes its cause active exactly at its active level, and an edge sense latches it for the kinds it selects. An input whose level
does not change, whose levels agree, or whose stable time the step leaves below min_duration, does nothing more (log entry 3). -/
def Obligations.TripInputsAreFiltered : Prop :=
  ∀ (x : Fin 4) (level : Level) (s : State), s.inReset = false →
    let a := s.tu.tin[x]
    let k := s.act.line.tin[x]
    let line := { s.pins with tin := s.pins.tin.set x level }
    let follows (u t : State) (l : Level) : Prop :=
      t = (if (k.sense = .levelLow ∧ l = .low) ∨ (k.sense = .levelHigh ∧ l = .high) ∨ k.sense = .bothEdges ∨
            (k.sense = .falling ∧ l = .low) ∨ (k.sense = .rising ∧ l = .high) then u.raise (.tin x)
          else if k.sense = .levelLow ∨ k.sense = .levelHigh then u.clearCause (.tin x)
          else u) ∧
      (k.sense = .levelLow → t.tu.active.has (.tin x) = decide (l = .low)) ∧
      (k.sense = .levelHigh → t.tu.active.has (.tin x) = decide (l = .high)) ∧
      (k.sense = .bothEdges ∨ (k.sense = .falling ∧ l = .low) ∨ (k.sense = .rising ∧ l = .high) →
        t.tu.latched.has (.tin x) = true) ∧
      ((k.sense = .falling ∧ l = .high) ∨ (k.sense = .rising ∧ l = .low) →
        t = { s with pins := t.pins, tu := { s.tu with tin := t.tu.tin } })
    (a.raw = level → exec (.tripInputChange x level) s = .next { s with pins := line }) ∧
    (a.raw ≠ level → (level = a.filtered ∨ k.minDuration ≠ 0) →
      exec (.tripInputChange x level) s = .next { s with
        pins := line
        tu := { s.tu with tin := s.tu.tin.set x { raw := level, filtered := a.filtered, stable := 0 } } }) ∧
    (a.raw ≠ level → level ≠ a.filtered → k.minDuration = 0 →
      let u : State := { s with
        pins := line
        tu := { s.tu with tin := s.tu.tin.set x { raw := level, filtered := level, stable := 0 } } }
      ∃ t, exec (.tripInputChange x level) s = .next t ∧ follows u t level ∧ CauseFrame u t) ∧
    (a.raw = a.filtered ∨ a.stable + 1 < k.minDuration → exec (.filteredTransition x) s = .next s) ∧
    (a.raw ≠ a.filtered → k.minDuration ≤ a.stable + 1 →
      let u : State := { s with
        tu := { s.tu with
          tin := s.tu.tin.set x { raw := a.raw, filtered := a.raw, stable := min (a.stable + 1) 1000 } } }
      ∃ t, exec (.filteredTransition x) s = .next t ∧ follows u t a.raw ∧ CauseFrame u t)

/-- ACKNOWLEDGE and REQUEST TRIP on a part that can act on them (R108, R109). ACKNOWLEDGE drops every latched cause that is not active,
leaves TRIPPED for STOPPED where E falls below Trip, releasing TOUT, and returns a HOLD to RUN where E falls below Hold; its Reply carries the
latched set, and a transition its DRIVE_STATE notice and no other notice (R107). REQUEST TRIP raises REQUESTED_TRIP with all that
RaiseAndClearAnnounceTriggerAndLog says of a raise: it latches its cause and leaves the drive TRIPPED. -/
def Obligations.AcknowledgeAndRequestTrip : Prop :=
  ∀ (tag : Byte) (s : State), s.ready → DriveInv s →
    (∃ t, exec (.acknowledge tag) s = .next t ∧
      let v := s.heardC.withReply tag 6 .done (causeWords (s.tu.latched &&& s.tu.active))
      t.me =
        (if t.tu.drive = s.tu.drive then v
          else v.notify .driveState
            (match t.tu.drive with
              | .stopped => 0
              | .run => 1
              | .hold => 2
              | .tripped => 3) 0 .high).me ∧
      t.tu.active = s.tu.active ∧ t.tu.latched = s.tu.latched &&& s.tu.active ∧ t.tu.e = t.effective ∧
      CauseFrame v t ∧
      t.cb = s.cb ∧ t.rs = s.rs ∧
      t.tu.drive = (match s.tu.drive with
        | .tripped => if t.tu.e = .trip then .tripped else .stopped
        | .hold => if t.tu.e = .hold then .hold else .run
        | .stopped => .stopped
        | .run => .run) ∧
      t.tu.tout = decide (t.tu.drive = .tripped)) ∧
    (∃ t, exec (.requestTrip tag) s = .next t ∧ t = (s.heardC.raise .requestedTrip).withReply tag 7 .done [] ∧
      t.tu.drive = .tripped ∧ t.tu.tout = true ∧ t.tu.latched.has .requestedTrip = true ∧
      (∀ c, c ≠ .requestedTrip → t.tu.latched.has c = s.tu.latched.has c) ∧
      (s.tu.drive ≠ .tripped → t.regA.intD = 0 ∧ t.regA.intQ = 0 ∧ t.regB.intD = 0 ∧ t.regB.intQ = 0) ∧
      CauseFrame (s.heardC.withReply tag 7 .done []) t)

/-! ## The capture window (chapter 07) -/

/-- CAPTURE NOW, CAPTURE RELEASE and CAPTURE DISARM in each capture state (R122, R123, R127 to R129). -/
def Obligations.CaptureRequestsAct : Prop :=
  ∀ (tag : Byte) (s : State), s.ready →
    let u := s.heardC
    let n := s.act.line.nPost
    let empty (state : CaptureState) : CaptureBuffer :=
      { s.cb with state := state, valid := 0, causes := [], short := false, remaining := 0, cadence := none }
    (s.cb.state = .armed → n ≠ 0 →
      exec (.captureNow tag) s = .next
        (State.withReply { u with cb := { s.cb with
            state := .triggered, causes := [.request], short := false, remaining := n, cadence := some 0 } }
          tag 8 .done [2])) ∧
    (s.cb.state = .armed → n = 0 →
      exec (.captureNow tag) s = .next
        (State.withReply
          (State.notify { u with cb := { s.cb with
              state := .frozen, causes := [.request], short := false, remaining := 0, cadence := none } }
            .captureFrozen 31 0 .low)
          tag 8 .done [7])) ∧
    (s.cb.state = .triggered → s.cb.causes.length < 4 →
      exec (.captureNow tag) s = .next
        (State.withReply { u with cb := { s.cb with causes := s.cb.causes ++ [.request] } } tag 8 .done [10])) ∧
    (s.cb.state = .triggered → 4 ≤ s.cb.causes.length →
      exec (.captureNow tag) s = .next (u.withReply tag 8 .done [14])) ∧
    (s.cb.state = .disarmed → exec (.captureNow tag) s = .next (u.withReply tag 8 .done [12])) ∧
    (s.cb.state = .frozen → exec (.captureNow tag) s = .next (u.withReply tag 8 .done [15])) ∧
    exec (.captureRelease tag) s = .next
      (match s.cb.state with
        | .frozen | .disarmed => State.withReply { u with cb := empty .armed } tag 9 .done []
        | .armed => u.withReply tag 9 .done []
        | .triggered => u.withReply tag 9 .refusedState []) ∧
    exec (.captureDisarm tag) s = .next
      (match s.cb.state with
        | .disarmed => u.withReply tag 10 .done []
        | .armed | .frozen => State.withReply { u with cb := empty .disarmed } tag 10 .done []
        | .triggered => State.withReply { u with
            cb := empty .disarmed
            rs := match s.rs.gathering with
              | some g =>
                if g.bound then
                  RecordStore.writeIfIdle
                    { s.rs with gathering := none, queue := enqueueRecord s.rs.queue { g.record with summary := none } }
                else s.rs
              | none => s.rs } tag 10 .done [])

/-- CADENCE_TIMEOUT (R124, R125, R137), the step that brings the cadence timer to 200: a TRIGGERED capture freezes short, announces its
first entry and closes the record bound to it with its summary; the remaining count stays as it stands. In another state, or with the
timer further from 200, the event does nothing (log entry 3). The summary (R126) holds
the largest q current and the lowest udc of each motor and the highest V over the valid snapshots. -/
def Obligations.CadenceFreezesShort : Prop :=
  (∀ (s : State), s.inReset = false →
    (s.cb.state ≠ .triggered → exec .cadenceTimeout s = .next s) ∧
    ((∀ n, s.cb.cadence = some n → n + 1 < 200) → exec .cadenceTimeout s = .next s) ∧
    (∀ n x rest, s.cb.state = .triggered → s.cb.cadence = some n → 200 ≤ n + 1 → s.cb.causes = x :: rest →
      let cb : CaptureBuffer := { s.cb with state := .frozen, cadence := none, short := true }
      let v := State.notify { s with cb := cb } .captureFrozen (BitVec.ofNat 16 x.code) 0 .low
      exec .cadenceTimeout s = .next { v with
        rs := match s.rs.gathering with
          | some g =>
            if g.bound then
              RecordStore.writeIfIdle
                { s.rs with
                  gathering := none, queue := enqueueRecord s.rs.queue { g.record with summary := some cb.summary } }
            else s.rs
          | none => s.rs })) ∧
  (∀ cb : CaptureBuffer,
    let m := cb.summary
    let snap (n : Nat) : Snapshot := cb.snapshotAt ((cb.writeIndex.val + 256 - cb.valid + n) % 256)
    m.valid = cb.valid ∧ m.short = cb.short ∧
    (∀ n, n < cb.valid →
      (snap n).a.iqMeas.natAbs ≤ m.maxIqA ∧ (snap n).b.iqMeas.natAbs ≤ m.maxIqB ∧
      m.minUdcA ≤ (snap n).a.udc ∧ m.minUdcB ≤ (snap n).b.udc ∧ (snap n).v ≤ m.maxV) ∧
    (m.maxIqA = 0 ∨ ∃ n, n < cb.valid ∧ (snap n).a.iqMeas.natAbs = m.maxIqA) ∧
    (m.maxIqB = 0 ∨ ∃ n, n < cb.valid ∧ (snap n).b.iqMeas.natAbs = m.maxIqB) ∧
    (m.minUdcA = 65535 ∨ ∃ n, n < cb.valid ∧ (snap n).a.udc = m.minUdcA) ∧
    (m.minUdcB = 65535 ∨ ∃ n, n < cb.valid ∧ (snap n).b.udc = m.minUdcB) ∧
    (m.maxV = 0 ∨ ∃ n, n < cb.valid ∧ (snap n).v = m.maxV))

/-! ## The trip record store (chapter 08) -/

/-- GATHER_EXPIRY (R136, R138), the millisecond step that brings the gather timer to 50: the gathering record closes without a summary and
joins the queue, or is merged into the newest record of a full one, and the clock takes its step (log entry 14). A record whose timer is
stopped, as a bound one's is, or further from 50, is left alone (log entry 3).
The merge appends the closing record's first cause and its list with their offsets moved to the newest record's opening. The start of
writing (R139): from an IDLE store with a record waiting, slots that are not Blank are skipped until the write slot is a Blank one, which is
then being programmed, or begins a sector, whose erase begins; every other slot reads as before. From that moment the slot, or every slot of
the sector, does not read Valid (R132); that it reads Invalid and not Blank is the model's (log entry 24). -/
def Obligations.RecordsCloseAndStartWriting : Prop :=
  ((∀ s : State, s.inReset = false →
    ((∀ g n, s.rs.gathering = some g → g.timer = some n → n + 1 < 50) → exec .gatherExpiry s = .next s) ∧
    (∀ g n, s.rs.gathering = some g → g.timer = some n → 50 ≤ n + 1 →
      let r := { g.record with summary := none }
      let closed := { s.rs with gathering := none, clock := s.rs.clock + 1 }
      (s.rs.queue.length < 4 →
        exec .gatherExpiry s = .next { s with
          rs := RecordStore.writeIfIdle { closed with queue := s.rs.queue ++ [r] } }) ∧
      (∀ front last, s.rs.queue = front ++ [last] → s.rs.queue.length = 4 →
        exec .gatherExpiry s = .next { s with
          rs := RecordStore.writeIfIdle { closed with queue := front ++ [last.merge r] } }))) ∧
  (∀ newest closing : Record,
    let r := newest.merge closing
    let base := closing.openedAt - newest.openedAt
    let added := (closing.first, min base 65535) :: closing.causes.map fun x => (x.1, min (base + x.2) 65535)
    let room := 8 - newest.causes.length
    newest.further ≤ 255 →
    r = { newest with
      causes := newest.causes ++ added.take room
      further := min (newest.further + (added.length - room) + closing.further) 255
      merged := true }) ∧
  (∀ (q : List Record) (r : Record),
    (q.length < 4 → enqueueRecord q r = q ++ [r]) ∧
    ∀ front last, q = front ++ [last] → q.length = 4 → enqueueRecord q r = front ++ [last.merge r])) ∧
  ((∀ rs : RecordStore,
    rs.writeIfIdle = if rs.state = .idle ∧ rs.queue ≠ [] then rs.beginWrite else rs) ∧
  (∀ rs : RecordStore,
    let t := rs.beginWrite
    ∃ k : Nat, k ≤ 16 ∧ t.writeSlot = rs.writeSlot + Fin.ofNat 64 k ∧
      (∀ j : Nat, j < k →
        (rs.writeSlot + Fin.ofNat 64 j).val % 16 ≠ 0 ∧
        slotAt (rs.writeSlot + Fin.ofNat 64 j).val rs.array ≠ none) ∧
      t = { rs with writeSlot := t.writeSlot, state := t.state, array := t.array } ∧
      (t.writeSlot.val % 16 = 0 → t.state = .erasing ∧
        ∀ n, slotAt n t.array =
          if t.writeSlot.val ≤ n ∧ n < t.writeSlot.val + 16 then some .invalid else slotAt n rs.array) ∧
      (t.writeSlot.val % 16 ≠ 0 → t.state = .programming ∧ slotAt t.writeSlot.val rs.array = none ∧
        ∀ n, slotAt n t.array = if n = t.writeSlot.val then some .invalid else slotAt n rs.array)))

/-- PROGRAM_COMPLETE (R141, R142): a good verify stores the record under its number and goes on to the next one, the last number takes the
store to FAULT; a first bad verify tries the next usable slot, a second takes the store to FAULT; LOG_FAULT is raised with FAULT
(R143). That the command carries the outcome of the verify is log entry 23, and that the slot keeps the record's opening step with it log entry
34. With no program in progress the event does nothing (log entry 3). -/
def Obligations.ProgramCompletes : Prop :=
  ∀ s : State, s.inReset = false →
    (s.rs.state ≠ .programming → ∀ good, exec (.programComplete good) s = .next s) ∧
    (s.rs.state = .programming →
      (∀ r rest, s.rs.queue = r :: rest →
        let seq := s.rs.nextSeq
        let stored := { s.rs with
          array := slotPut s.rs.writeSlot.val (.valid seq r) s.rs.array
          queue := rest, writeSlot := s.rs.writeSlot + 1, retry := false }
        let told (rs : RecordStore) : State :=
          State.notify { s with rs := rs } .recordStored (BitVec.ofNat 16 (seq / 65536)) (BitVec.ofNat 16 seq) .low
        (seq < 4294967295 →
          exec (.programComplete true) s = .next
            (told (RecordStore.writeIfIdle { stored with nextSeq := seq + 1, state := .idle }))) ∧
        (seq = 4294967295 →
          exec (.programComplete true) s = .next ((told { stored with state := .fault }).raise .logFault))) ∧
      (s.rs.retry = false →
        exec (.programComplete false) s = .next { s with
          rs := RecordStore.beginWrite { s.rs with writeSlot := s.rs.writeSlot + 1, retry := true } }) ∧
      (s.rs.retry = true →
        exec (.programComplete false) s = .next
          (State.raise { s with rs := { s.rs with writeSlot := s.rs.writeSlot + 1, state := .fault } } .logFault)))

/-- ERASE_COMPLETE and CLEAR_SECTOR_COMPLETE (R140, R143, R145): a sector whose verify is good reads Blank and the store goes on, to the
program of its first slot, to the next sector, or to the end of the clear, where the numbers start again at 1 in slot 0, LOG_FAULT is
cleared, LOG_ERASED is queued unless the mask disables the kind, and a waiting record's writing begins with the erase of sector 0; a slot
that does not read Blank takes the store to FAULT with LOG_FAULT. Other slots read as before. That the slots of a sector whose erase has
begun, and the slot being programmed, read Invalid until the end is the model's (log entry 24). That the command
carries the outcome of the verify is log entry 23. With no erase of the kind in progress the events do nothing (log entry 3). -/
def Obligations.ErasesComplete : Prop :=
  ∀ (s : State) (notBlank : Word), s.inReset = false → Slots.Ok 64 s.rs.array →
    let after (first n : Nat) : Option ArraySlot :=
      if first ≤ n ∧ n < first + 16 then if notBlank.getLsbD (n - first) then some .invalid else none
      else slotAt n s.rs.array
    (s.rs.state ≠ .erasing → exec (.eraseComplete notBlank) s = .next s) ∧
    (s.rs.state = .erasing → s.rs.writeSlot.val % 16 = 0 →
      ∃ t, exec (.eraseComplete notBlank) s = .next t ∧
        (notBlank = 0 →
          t = { s with rs := { s.rs with state := .programming, array := t.rs.array } } ∧
          ∀ n, slotAt n t.rs.array = if n = s.rs.writeSlot.val then some .invalid else after s.rs.writeSlot.val n) ∧
        (notBlank ≠ 0 →
          t.rs.state = .fault ∧ t.tu.active.has .logFault = true ∧
          (∀ n, slotAt n t.rs.array = after s.rs.writeSlot.val n) ∧
          t = State.raise { s with rs := { s.rs with state := .fault, array := t.rs.array } } .logFault)) ∧
    ((∀ k, s.rs.state ≠ .clearing k) → exec (.clearSectorComplete notBlank) s = .next s) ∧
    (∀ k : Fin 4, s.rs.state = .clearing k →
      ∃ t, exec (.clearSectorComplete notBlank) s = .next t ∧
        (notBlank ≠ 0 →
          t.rs.state = .fault ∧ t.tu.active.has .logFault = true ∧
          (∀ n, slotAt n t.rs.array = after (16 * k.val) n) ∧
          t = State.raise { s with rs := { s.rs with state := .fault, array := t.rs.array } } .logFault) ∧
        (notBlank = 0 → k ≠ 3 →
          t = { s with rs := { s.rs with state := .clearing (k + 1), array := t.rs.array } } ∧
          ∀ n, slotAt n t.rs.array =
            if 16 * k.val + 16 ≤ n ∧ n < 16 * k.val + 32 then some .invalid else after (16 * k.val) n) ∧
        (notBlank = 0 → k = 3 →
          t.rs.nextSeq = 1 ∧ t.rs.writeSlot = 0 ∧ t.rs.retry = false ∧ t.tu.active.has .logFault = false ∧
          t.tu.latched = s.tu.latched ∧ t.rs.queue = s.rs.queue ∧ t.rs.gathering = s.rs.gathering ∧
          t.rs.state = (if s.rs.queue = [] then .idle else .erasing) ∧
          (∀ n, slotAt n t.rs.array = if s.rs.queue ≠ [] ∧ n < 16 then some .invalid else after 48 n) ∧ t.cb = s.cb ∧
          (s.me.mask.getLsbD 7 = true →
            Announced s.me.low t.me.low
              { kind := .logErased, subject1 := 0, subject2 := 0, demandCount := s.me.demandCount, overflow := false })))

/-- SCAN_END (R131, R148): next sequence and the write slot follow the Valid record with the highest number, or start at 1 and slot 0
where there is none; the last number takes the store to FAULT; a DISARMED capture buffer is armed, and a waiting record begins to be written.
With no scan in progress the event does nothing (log entry 3). -/
def Obligations.ScanEndSetsTheStore : Prop :=
  ∀ s : State, s.inReset = false → StoreInv s →
    (s.rs.state ≠ .scanning → exec .scanEnd s = .next s) ∧
    (s.rs.state = .scanning →
      let armed : CaptureBuffer :=
        if s.cb.state = .disarmed then { s.cb with state := .armed, valid := 0, causes := [] } else s.cb
      ((∀ i q r, slotAt i s.rs.array ≠ some (.valid q r)) →
        exec .scanEnd s = .next { s with
          cb := armed
          rs := RecordStore.writeIfIdle { s.rs with nextSeq := 1, writeSlot := 0, retry := false, state := .idle } }) ∧
      (∀ i seq r, slotAt i s.rs.array = some (.valid seq r) →
        (∀ j q r', slotAt j s.rs.array = some (.valid q r') → q ≤ seq) →
        (seq < 4294967295 →
          exec .scanEnd s = .next { s with
            cb := armed
            rs := RecordStore.writeIfIdle { s.rs with
              nextSeq := seq + 1, writeSlot := Fin.ofNat 64 (i + 1), retry := false, state := .idle } }) ∧
        (seq = 4294967295 →
          ∃ t, exec .scanEnd s = .next t ∧ t.rs.state = .fault ∧ t.rs.nextSeq = seq ∧
            t.rs.writeSlot = Fin.ofNat 64 (i + 1) ∧ t.rs.array = s.rs.array ∧ t.tu.active.has .logFault = true ∧
            (s.cb.state = .disarmed → t.cb = armed))))

/-! ## The drive links (chapter 09) -/

/-- What a frame and a timeout do to the link they concern (R153 to R157, R164): the error count of a discarded frame; the way to lock
of good frames, with the link's cause cleared at it; the expiry out of LOCKING, LOCKED and LOST at the step that brings the timer to the
timeout of the LINE bank in force, or finds it there (R155, R162), with the cause raised and the blocks told when the link leaves LOCKED.
What they are told (R157): a P-link's regulator aborts a calibration, with CAL_DONE ABORTED (R25); the S-link's window and reference runs
restart and a wire check is aborted, with WIRE_DONE ABORTED (R76, R82, R90); the C-link discards a waiting Report (R164). A timer that is
stopped or further from the timeout does not expire (log entry 3). That a lock's LINK_STATE notice comes before the CAUSE_CLEARED notice of
the clear is log entry 21. -/
def Obligations.LinksMoveByFramesAndTimeouts : Prop :=
  ∀ (l : LinkId) (s : State), s.inReset = false →
    let u := s.link l
    let due : Prop := ∃ n, u.timer = some n ∧ (s.act.linkEntry l).timeout ≤ n + 1
    let say (t : State) (new : LinkState) : State :=
      t.notify .linkState (BitVec.ofNat 16 (linkCode l)) (BitVec.ofNat 16 new.code) .low
    exec (.frameDiscarded l) s = .next
      (match u.state with
        | .down => s
        | .locking => s.setLink l { u with errors := min (u.errors + 1) 65535, good := 0 }
        | .searching | .locked | .lost => s.setLink l { u with errors := min (u.errors + 1) 65535 }) ∧
    (u.state = .searching → s.goodFrame l = say (s.setLink l { u with state := .locking, good := 1, timer := some 0 }) .locking) ∧
    (u.state = .locking →
      let count := match (s.act.linkEntry l).lockCode with
        | 0 => 6
        | 1 => 12
        | 2 => 24
        | 3 => 48
      (u.good + 1 < count → s.goodFrame l = s.setLink l { u with good := u.good + 1, timer := some 0 }) ∧
      (count ≤ u.good + 1 →
        let v := say (s.setLink l { u with state := .locked, good := count, timer := some 0 }) .locked
        (s.goodFrame l).link l = { u with state := .locked, good := count, timer := some 0 } ∧
        CauseFrame v (s.goodFrame l) ∧ (l = .C → s.goodFrame l = v) ∧
        ∀ c, Cause.linkLost l = some c →
          s.goodFrame l = v.clearCause c ∧ (s.goodFrame l).tu.active.has c = false)) ∧
    (u.state = .locked → s.goodFrame l = s.setLink l { u with timer := some 0 }) ∧
    (u.state = .lost ∨ u.state = .down → s.goodFrame l = s) ∧
    (u.state = .down ∨ u.state = .searching → u.timer = none → exec (.linkTimeout l) s = .next s) ∧
    ((∀ n, u.timer = some n → n + 1 < (s.act.linkEntry l).timeout) → exec (.linkTimeout l) s = .next s) ∧
    (u.state = .locking → due →
      exec (.linkTimeout l) s = .next (say (s.setLink l { u with state := .searching, good := 0, timer := none }) .searching)) ∧
    (u.state = .lost → due →
      exec (.linkTimeout l) s = .next
        (if l = .C ∨ u.relock = true then
          say (s.setLink l { u with state := .searching, good := 0, timer := none }) .searching
        else s.setLink l { u with good := 0, timer := some 0 })) ∧
    (∀ m, l = powerLink m → s.linkLeftLocked l =
      match (s.reg m).calibration with
      | none => s
      | some _ => State.notify (s.setReg m { s.reg m with calibration := none }) .calDone (BitVec.ofNat 16 (motorCode m)) 2 .low) ∧
    (l = .C → s.linkLeftLocked l = { s with up := { s.up with waiting := none } }) ∧
    (l = .S →
      ∃ channels, (∀ c : Fin 8, channels[c] =
          if s.inService c then { s.vm.channels[c] with sum := 0, peak := 0, held := false } else s.vm.channels[c]) ∧
        s.linkLeftLocked l =
          let v := { s with
            vm := { s.vm with channels := channels, window := 0 }
            scu := { s.scu with outRun := 0, inRun := 0 } }
          match s.scu.wire with
          | none => v
          | some w =>
            State.notify { v with scu := { v.scu with wire := none, testBits := 0 } } .wireDone
              (BitVec.ofNat 16 w.channel.val) 2 .low) ∧
    (u.state = .locked → due →
      ∃ t, exec (.linkTimeout l) s = .next t ∧
        t.link l = { u with state := .lost, good := 0, timer := some 0 } ∧ (∀ o, o ≠ l → t.link o = s.link o) ∧
        (∀ c, Cause.linkLost l = some c →
          t = (State.raise (say (s.setLink l { u with state := .lost, good := 0, timer := some 0 }) .lost) c).linkLeftLocked l ∧
          t.tu.active.has c = true) ∧
        (l = .A ∨ l = .B → t.tu.drive = .tripped ∨ ∃ c, Cause.linkLost l = some c ∧ s.tu.active.has c = true) ∧
        (∀ m, l = powerLink m →
          (t.reg m).calibration = none ∧ (t.reg m).calibrated = (s.reg m).calibrated ∧
          (t.reg m).offsetA = (s.reg m).offsetA ∧ (t.reg m).offsetB = (s.reg m).offsetB) ∧
        (l = .S → t.vm.window = 0 ∧ t.scu.outRun = 0 ∧ t.scu.inRun = 0 ∧ t.scu.wire = none ∧
          (s.scu.wire.isSome = true → t.scu.testBits = 0) ∧ t.scu.refFail = s.scu.refFail ∧ t.vm.v = s.vm.v ∧
          ∀ c : Fin 8, t.vm.channels[c] =
            if s.inService c then { s.vm.channels[c] with sum := 0, peak := 0, held := false } else s.vm.channels[c]) ∧
        (l = .C → t = say { s with
          linkC := { s.linkC with state := .lost, good := 0, timer := some 0 }
          up := { s.up with waiting := none } } .lost))

/-- LINK CONTROL's six operations (R161): each on each link, with the link as the request left it in the Reply; a link outside the four is
answered BAD_INDEX. That the three result words are then 0, where R161 has the Reply carry the link's words whatever the status, is log
entry 33. A disable out of LOCKED hands the change on as a loss does (what LinksMoveByFramesAndTimeouts says of it) and raises no cause
(R157). -/
def Obligations.LinkControlOperates : Prop :=
  ∀ (tag : Byte) (w : Word) (s : State), s.ready →
    let v := s.heardC
    let words (u : LinkUnit) (relock : Bool) : List Word :=
      [BitVec.ofNat 16 ((if relock then 32768 else 0) + u.state.code), BitVec.ofNat 16 u.good, BitVec.ofNat 16 u.errors]
    (4 ≤ w.toNat →
      ∀ i ∈ [Instr.linkEnable tag w, .linkDisable tag w, .relockOn tag w, .relockOff tag w, .relockNow tag w,
          .clearErrorCount tag w],
        exec i s = .next (v.withReply tag 16 .badIndex [0, 0, 0])) ∧
    ∀ l, w = BitVec.ofNat 16 (linkCode l) →
      let u := v.link l
      let r (x : LinkUnit) : List Word := words x (decide (l = .C) || x.relock)
      let say (t : State) (new : LinkState) : State :=
        t.notify .linkState (BitVec.ofNat 16 (linkCode l)) (BitVec.ofNat 16 new.code) .low
      let searching : LinkUnit := { u with state := .searching, good := 0, timer := none }
      let down : LinkUnit := { u with state := .down, good := 0, timer := none }
      exec (.linkEnable tag w) s = .next
        (if u.state = .down then State.withReply (say (v.setLink l searching) .searching) tag 16 .done (r searching)
          else v.withReply tag 16 .done (r u)) ∧
      exec (.relockNow tag w) s = .next
        (if u.state = .lost then State.withReply (say (v.setLink l searching) .searching) tag 16 .done (r searching)
          else v.withReply tag 16 .done (r u)) ∧
      exec (.relockOn tag w) s = .next
        (State.withReply (v.setLink l { u with relock := true }) tag 16 .done (r { u with relock := true })) ∧
      exec (.relockOff tag w) s = .next
        (if l = .C then v.withReply tag 16 .refusedState (r u)
          else State.withReply (v.setLink l { u with relock := false }) tag 16 .done (r { u with relock := false })) ∧
      exec (.clearErrorCount tag w) s = .next
        (State.withReply (v.setLink l { u with errors := 0 }) tag 16 .done (r { u with errors := 0 })) ∧
      (l = .C ∨ (l ≠ .S ∧ s.running = true) →
        exec (.linkDisable tag w) s = .next (v.withReply tag 16 .refusedState (r u))) ∧
      (l = .S ∨ (l ≠ .C ∧ s.running = false) →
        exec (.linkDisable tag w) s = .next
          (State.withReply
            (match u.state with
              | .down => v
              | .locked => (say (v.setLink l down) .down).linkLeftLocked l
              | .searching | .locking | .lost => say (v.setLink l down) .down)
            tag 16 .done (if u.state = .down then r u else r down)))

/-- The upstream direction of the C-link (R164, R165). At the end of a Report on a LOCKED link one management frame is chosen: the oldest
Reply, else the head of the high notice queue, else the head of the low one, which leaves its queue then; with none the slot closes at
once. A slot that closes lets a waiting Report go. While the link is not LOCKED no slot opens. The end of a frame that is not being sent does
not occur (log entry 3). A notice handed to the engine (R177, R178): a kind the mask disables is not queued and marks nothing; one that finds its
queue with fewer than 8 entries joins it at the tail with the Demand count and the overflow flag clear; one that finds 8 is lost and flags the
entry at the tail. The other queue and the rest of the part stay. -/
def Obligations.NoticesQueueAndSlotsCarryThem : Prop :=
  (∀ s : State, s.inReset = false →
    let closed : State := match s.up.waiting with
      | some r => { s with up := { sending := .report r, waiting := none }, sent := .report r :: s.sent }
      | none => { s with up := { sending := .idle, waiting := none } }
    let sends (f : ManagementFrame) (me : Management) : State :=
      { s with me := me, up := { s.up with sending := .management f }, sent := .management f :: s.sent }
    (∀ r, s.up.sending = .report r → s.linkC.state = .locked →
      (∀ x rest, s.me.replies = x :: rest →
        exec .reportSent s = .next (sends (.reply x) { s.me with replies := rest })) ∧
      (∀ n rest, s.me.replies = [] → s.me.high = n :: rest →
        exec .reportSent s = .next (sends (.notice n) { s.me with high := rest })) ∧
      (∀ n rest, s.me.replies = [] → s.me.high = [] → s.me.low = n :: rest →
        exec .reportSent s = .next (sends (.notice n) { s.me with low := rest })) ∧
      (s.me.replies = [] → s.me.high = [] → s.me.low = [] → exec .reportSent s = .next closed)) ∧
    (∀ r, s.up.sending = .report r → s.linkC.state ≠ .locked →
      exec .reportSent s = .next { s with up := { s.up with sending := .idle } }) ∧
    ((∀ r, s.up.sending ≠ .report r) → exec .reportSent s = .next s) ∧
    (∀ f, s.up.sending = .management f → exec .managementFrameSent s = .next closed) ∧
    ((∀ f, s.up.sending ≠ .management f) → exec .managementFrameSent s = .next s)) ∧
  (∀ (s : State) (k : NoticeKind) (x y : Word) (p : Priority),
    let q := match p with
      | .high => s.me.high
      | .low => s.me.low
    let into (z : List Notice) : State := match p with
      | .high => { s with me := { s.me with high := z } }
      | .low => { s with me := { s.me with low := z } }
    let n : Notice := { kind := k, subject1 := x, subject2 := y, demandCount := s.me.demandCount, overflow := false }
    (s.me.mask.getLsbD k.code = false → s.notify k x y p = s) ∧
    (s.me.mask.getLsbD k.code = true → q.length < 8 → s.notify k x y p = into (q ++ [n])) ∧
    (∀ front last, s.me.mask.getLsbD k.code = true → 8 ≤ q.length → q = front ++ [last] →
      s.notify k x y p = into (front ++ [{ last with overflow := true }])))

/-! ## Tables, requests and notices (chapter 10) -/

/-- Every Request that is acted on is answered in its event by exactly one Reply at the tail of the queue, with its tag and code echoed and
the result words of its code (R166, R174); an accepted RESET is answered by none (R116). What is not acted on: a control frame on a C-link that
is not LOCKED is a good frame and nothing more (R28, R159); CONTROL_FRAME_NOT_LOCKED is that event, and on a LOCKED link it does not occur
(log entry 3); that such a frame may come by either command, with the same effect, is log entry 25. A Request that finds four Replies waiting is
discarded and sets the request-dropped flag (R174). -/
def Obligations.RequestsGetOneReplyOrAreNotActedOn : Prop :=
  (∀ (i : Instr) (tag code : Byte) (s : State),
    requestOf i = some (tag, code) → s.ready → QueueInv s → StoreInv s → (code = 19 → s.running = true) →
    ∃ t status result, exec i s = .next t ∧
      t.me.replies = s.me.replies ++ [{ tag := tag, code := code, status := status, result := result }] ∧
      result.length = resultWords code.toNat) ∧
  (∀ (i : Instr) (s : State), s.inReset = false →
    (s.linkC.state ≠ .locked → exec .controlFrameNotLocked s = .next (s.goodFrame .C)) ∧
    (s.linkC.state = .locked → exec .controlFrameNotLocked s = .next s) ∧
    (s.linkC.state ≠ .locked → (∃ f, i = .demand f) ∨ (requestOf i).isSome = true → exec i s = .next (s.goodFrame .C)) ∧
    (s.linkC.state = .locked → 4 ≤ s.me.replies.length → (requestOf i).isSome = true →
      exec i s = .next { s with
        linkC := { s.linkC with timer := some 0 }
        me := { s.me with dropped := true } }))

/-- READ ENTRY (R170): the entry of the bank named, as written, its fields in the order of R167 with 0 behind the last, or BAD_INDEX for a
table, a bank or an index that does not exist; nothing changes but the reply queue, and the link timer that every good frame restarts
(R155). The fields of Tables.entry, which the banks' ranges are stated on, travel in these words. -/
def Obligations.ReadEntryReturnsTheBank : Prop :=
  ∀ (tag : Byte) (table bank index : Word) (s : State), s.ready →
    let i := index.toNat
    let b := if bank = 0 then s.me.active else s.me.standby
    let w (x : Int) : Word := BitVec.ofInt 16 x
    let wide (x : Nat) : List Word := [BitVec.ofNat 16 (x / 65536), BitVec.ofNat 16 x]
    let bit (x : Bool) : Word := if x then 1 else 0
    let fields : TableId → List Word := fun tb => match tb with
      | .motor =>
        let e := if i = 0 then b.motor.a else b.motor.b
        [w e.kpD, w e.kiD, w e.kpQ, w e.kiQ, w e.mceil, w e.idMax, w e.ocThreshold, w e.offLim, w e.t1, w e.t2, w e.t3,
          w e.tHyst, w e.f1, w e.f2, w e.uLo, w e.uHi, w e.uHyst, w e.nStale]
      | .torque =>
        if h : i < 8 then
          let e := b.torque.bands[i]
          wide e.period ++ [w e.limitA, w e.limitB, w e.total]
        else
          let e := b.torque.scalars
          [w e.lcontA, w e.lcontB, w e.lcontTotal] ++ wide e.accMax ++ wide e.accRelease
            ++ [w e.decay, w e.derateAction, w e.rampStep, w e.imbThr, w e.imbMin, w e.imbCount] ++ wide e.stallTime
      | .vibration =>
        if h : i < 8 then
          let e := b.vibration.channels[i]
          [bit e.enable, w e.alert[0], w e.alert[1], w e.alert[2], w e.alert[3], w e.alarm[0], w e.alarm[1], w e.alarm[2],
            w e.alarm[3], w e.trip[0], w e.trip[1], w e.trip[2], w e.trip[3]]
        else
          let e := b.vibration.scalars
          [w e.g, w e.w, w e.k, w e.pUp, w e.pDown, w e.hyst] ++ wide e.vp1 ++ wide e.vp2 ++ wide e.vp3
            ++ [w e.derate[0], w e.derate[1], w e.derate[2], w e.derate[3], w e.refLo, w e.refHi] ++ wide e.flatFloor
            ++ [w e.flatCount, w e.minShift, w e.nW]
      | .action =>
        if h : i < 31 then
          let e := b.action[i]
          let action : Word := match e.action with
            | .ignore => 0
            | .notice => 1
            | .derate => 2
            | .hold => 3
            | .trip => 4
          [action, bit e.capture, bit e.log, bit e.latch, bit (decide (e.priority = .low))]
        else []
      | .line =>
        let link (e : LinkEntry) : List Word := [w e.timeout, w e.lockCode.val, bit e.relock]
        if h : i < 4 then
          let e := b.line.tin[i]
          let sense : Word := match e.sense with
            | .levelLow => 0
            | .levelHigh => 1
            | .falling => 2
            | .rising => 3
            | .bothEdges => 4
          [sense, w e.minDuration]
        else if i = 4 then
          let e := b.line.marker
          [bit (decide (e.edge = .falling))] ++ wide e.minPeriod ++ wide e.maxPeriod
        else if i = 5 then link b.line.linkC
        else if i = 6 then link b.line.linkA
        else if i = 7 then link b.line.linkB
        else if i = 8 then link b.line.linkS
        else [w b.line.nPost]
    (4 < table.toNat ∨ 1 < bank.toNat ∨
        (∃ tb, tableOfCode table = some tb ∧ tableEntries tb ≤ i) →
      exec (.readEntry tag table bank index) s = .next (s.heardC.withReply tag 2 .badIndex (List.replicate 24 0))) ∧
    (∀ tb, table = BitVec.ofNat 16 tb.code → bank.toNat ≤ 1 → i < tableEntries tb →
      (fields tb).length ≤ 24 ∧
      exec (.readEntry tag table bank index) s = .next
        (s.heardC.withReply tag 2 .done (fields tb ++ List.replicate (24 - (fields tb).length) 0)) ∧
      ∃ fs xs, b.entry tb i = some (fs, xs) ∧ fs.length = xs.length ∧ writeFields fs xs = fields tb)

/-- READ STATUS, READ CAPTURE and READ RECORD (R130, R146, R147, R175) and a Request of no known code (R174): what each reads, the order in
which it is refused, and that it changes nothing but the reply queue. That READ STATUS reads 0 for the Samples counted with no calibration
in flight, and for the phase, channel and count with no wire check in flight, is log entry 38. The last clause, a LINK CONTROL with an
operation outside the six arriving as UNKNOWN_REQUEST with code 16 and answered BAD_INDEX with the link's words, is R161 read with log entry
6; that the words are 0 for a link outside the four is log entry 33. -/
def Obligations.ReadsChangeNothing : Prop :=
  ∀ (tag : Byte) (s : State), s.ready → QueueInv s → StoreInv s →
    let v := s.heardC
    let bit (x : Bool) (n : Nat) : Nat := if x then 2 ^ n else 0
    let actionCode : Action → Nat := fun x => match x with
      | .ignore => 0
      | .notice => 1
      | .derate => 2
      | .hold => 3
      | .trip => 4
    let linkWords (u : LinkUnit) (relock : Bool) : List Word :=
      [BitVec.ofNat 16 (bit relock 15 + u.good * 256 + (match u.state with
          | .down => 0
          | .searching => 1
          | .locking => 2
          | .locked => 3
          | .lost => 4)), BitVec.ofNat 16 u.errors]
    let motorWord (r : Regulator) : Word :=
      BitVec.ofNat 16 (bit r.calibrated 15 + bit r.calibration.isSome 14 + match r.calibration with
        | none => 0
        | some k => k.count)
    (∃ ws, exec (.readStatus tag) s = .next (v.withReply tag 1 .done ws) ∧ ws.length = 64 ∧
      ws.take 4 = wideWords s.tu.active.toNat ++ wideWords s.tu.latched.toNat ∧
      ws[4]? = some (BitVec.ofNat 16 (s.tu.drive.code * 16384 + s.tu.e.code * 2048 + s.tu.reason.code * 256 +
        s.tu.restart.code * 16 + (if s.me.timeSet then 1 else 0))) ∧
      (∀ c : Fin 31, ((ws.getD (5 + c.val / 5) 0).toNat / 8 ^ (c.val % 5)) % 8 = actionCode (s.acting c)) ∧
      (ws.drop 12).take 2 = wideWords s.me.seconds ∧ ws[14]? = some s.me.mask ∧
      ws[15]? = some (BitVec.ofNat 16 (bit s.me.pendingSwitch.line 15 + bit s.me.pendingSwitch.action 14 +
        bit s.me.pendingSwitch.vibration 13 + bit s.me.pendingSwitch.torque 12 + bit s.me.pendingSwitch.motor 11 +
        s.me.replies.length * 256 + s.me.low.length * 16 + s.me.high.length)) ∧
      (ws.drop 16).take 8 =
        linkWords s.linkC true ++ linkWords s.linkA s.linkA.relock ++ linkWords s.linkB s.linkB.relock ++
          linkWords s.linkS s.linkS.relock ∧
      ws[24]? = some (BitVec.ofNat 16 (bit s.tl.latch 15 + bit s.rs.gathering.isSome 8 + s.rs.queue.length * 32 +
        (match s.rs.state with
          | .scanning => 0
          | .idle => 1
          | .programming => 2
          | .erasing => 3
          | .clearing _ => 4
          | .fault => 5) * 4 +
        (match s.cb.state with
          | .disarmed => 0
          | .armed => 1
          | .triggered => 2
          | .frozen => 3))) ∧
      (ws.drop 25).take 3 = wideWords s.rs.nextSeq ++ [BitVec.ofNat 16 s.rs.writeSlot.val] ∧
      (ws.drop 28).take 2 = [motorWord s.regA, motorWord s.regB] ∧
      (ws.drop 30).take 4 = [intWord s.regA.offsetA, intWord s.regA.offsetB, intWord s.regB.offsetA, intWord s.regB.offsetB] ∧
      ws[34]? = some (BitVec.ofNat 16 ((match s.mt.state with
          | .lost => 0
          | .acquiring => 1
          | .tracking => 2) * 256 + s.torqueBand * 16 + s.vibrationBand)) ∧
      (ws.drop 35).take 4 = wideWords s.mt.lastPeriod ++ wideWords s.mt.silence ∧
      ws[39]? = some (BitVec.ofNat 16 (s.vm.v.val * 256 + (s.worst.map Fin.val).getD 15)) ∧
      ws[40]? = some (BitVec.ofNat 16 s.vm.window) ∧
      (∀ c : Fin 8, ((ws.getD (41 + c.val / 4) 0).toNat / 16 ^ (c.val % 4)) % 16 =
        (s.vm.channels[c].grade.map Fin.val).getD 15) ∧
      (∀ c : Fin 8, (ws.getD 43 0).getLsbD (8 + c.val) = s.scu.checks[c].wireFault ∧
        (ws.getD 43 0).getLsbD c.val = s.scu.checks[c].flat) ∧
      (s.scu.wire = none → ws[44]? = some (BitVec.ofNat 16 (bit s.scu.refFail 15)) ∧ ws[45]? = some 0) ∧
      (∀ w, s.scu.wire = some w →
        ws[44]? = some (BitVec.ofNat 16 (bit s.scu.refFail 15 + 16384 + bit w.inject 13 + w.channel.val)) ∧
        ws[45]? = some (BitVec.ofNat 16 w.count)) ∧
      (∀ c : Fin 8, ws[46 + c.val]? = some (BitVec.ofNat 16 s.vm.channels[c].rmsLast) ∧
        ws[54 + c.val]? = some (BitVec.ofNat 16 s.vm.channels[c].peakLast)) ∧
      ws.drop 62 = wideWords s.tl.acc) ∧
    (∀ n, s.cb.state ≠ .frozen →
      exec (.readCapture tag n) s = .next (v.withReply tag 11 .refusedState (List.replicate 21 0))) ∧
    (∀ n, s.cb.state = .frozen → s.cb.valid ≤ n.toNat →
      exec (.readCapture tag n) s = .next (v.withReply tag 11 .badIndex (List.replicate 21 0))) ∧
    (∀ n x, s.cb.state = .frozen → n.toNat < s.cb.valid →
      slotAt ((s.cb.writeIndex.val + 256 - s.cb.valid + n.toNat) % 256) s.cb.slots = some x →
      exec (.readCapture tag n) s = .next (v.withReply tag 11 .done
        ([x.period, BitVec.ofNat 16 (x.seq.toNat * 256 + x.drive.code * 64 + x.e.code * 8), BitVec.ofNat 16 x.h]
          ++ x.a.words ++ x.b.words
          ++ [BitVec.ofNat 16 (x.v.val * 256 + worstCode x.worst), BitVec.ofNat 16 x.worstRms, BitVec.ofNat 16 s.cb.valid,
            BitVec.ofNat 16 ((if s.cb.short then 32768 else 0) + s.cb.causes.length)]
          ++ s.cb.causes.map (fun y => BitVec.ofNat 16 y.code) ++ List.replicate (4 - s.cb.causes.length) 0))) ∧
    (∀ form hi lo, s.rs.state = .scanning ∨ (∃ k, s.rs.state = .clearing k) →
      exec (.readRecord tag form hi lo) s = .next (v.withReply tag 12 .refusedBusy (List.replicate 44 0))) ∧
    (s.rs.state ≠ .scanning → (∀ k, s.rs.state ≠ .clearing k) → ∀ (hi lo : Word),
      let value := hi.toNat * 65536 + lo.toNat
      let found (form : Word) (r : Record) (at_ : Option (Nat × Nat)) : Prop :=
        exec (.readRecord tag form hi lo) s = .next (v.withReply tag 12 .done (r.words at_))
      let missing (form : Word) : Prop :=
        exec (.readRecord tag form hi lo) s = .next (v.withReply tag 12 .badIndex (List.replicate 44 0))
      (∀ i q r, slotAt i s.rs.array = some (.valid q r) →
        value = ((validRecords s.rs.array).filter fun x => decide (q < x.2.1)).length → found 0 r (some (i, q))) ∧
      ((validRecords s.rs.array).length ≤ value → missing 0) ∧
      (∀ i r, slotAt i s.rs.array = some (.valid value r) → found 1 r (some (i, value))) ∧
      ((∀ i r, slotAt i s.rs.array ≠ some (.valid value r)) → missing 1) ∧
      (∀ r, s.rs.queue[value]? = some r → found 2 r none) ∧
      (s.rs.queue.length ≤ value → missing 2) ∧ ∀ form : Word, 3 ≤ form.toNat → missing form) ∧
    (∀ code params, code = 0 ∨ 20 < code.toNat →
      exec (.unknownRequest tag code params) s = .next (v.withReply tag code .unknown [])) ∧
    (∀ link op : Word, 6 ≤ op.toNat →
      (4 ≤ link.toNat → exec (.unknownRequest tag 16 [link, op]) s = .next (v.withReply tag 16 .badIndex [0, 0, 0])) ∧
      ∀ l, link = BitVec.ofNat 16 (linkCode l) →
        let u := v.link l
        exec (.unknownRequest tag 16 [link, op]) s = .next (v.withReply tag 16 .badIndex
          [BitVec.ofNat 16 (bit (decide (l = .C) || u.relock) 15 + u.state.code), BitVec.ofNat 16 u.good,
            BitVec.ofNat 16 u.errors]))

/-- WRITE ENTRY (R169): refused for a table or an index that does not exist and while a switch is pending; else the standby entry takes every
field sent, in the order of R167: a numeric field limited to its range, a signed one read with −32768 as −32767, an enumerated field above
its highest code as its highest, G limited to 2 to 8 and then lowered by one if odd; and the Reply counts the fields the limits changed.
Every other entry of the standby bank, and the active bank, stay. A frame without the 24 value words is discarded (R153, log
entry 26). -/
def Obligations.WriteEntryLimitsEveryField : Prop :=
  ∀ (tag : Byte) (table index : Word) (values : List Word) (s : State), s.ready →
    let v := s.heardC
    (values.length ≠ 24 → exec (.writeEntry tag table index values) s = exec (.frameDiscarded .C) s) ∧
    (values.length = 24 →
      (4 < table.toNat ∨ (∃ tb, tableOfCode table = some tb ∧ tableEntries tb ≤ index.toNat) →
        exec (.writeEntry tag table index values) s = .next (v.withReply tag 3 .badIndex [0])) ∧
      ∀ tb, table = BitVec.ofNat 16 tb.code → index.toNat < tableEntries tb →
        (s.me.pendingSwitch.get tb = true →
          exec (.writeEntry tag table index values) s = .next (v.withReply tag 3 .refusedBusy [0])) ∧
        (s.me.pendingSwitch.get tb = false →
          let i := index.toNat
          let b := s.me.standby
          let u (n : Nat) : Nat := (values.getD n 0).toNat
          let wide (n : Nat) : Nat := u n * 65536 + u (n + 1)
          let sg (n : Nat) : Int := if (values.getD n 0).toInt = -32768 then -32767 else (values.getD n 0).toInt
          let lim (lo hi x : Nat) : Nat := max lo (min x hi)
          let temp (n : Nat) : Int := max (-400) (min (sg n) 2000)
          let on (n : Nat) : Bool := decide (1 ≤ u n)
          let motor : MotorEntry :=
            { kpD := u 0, kiD := u 1, kpQ := u 2, kiQ := u 3, mceil := lim 8192 32767 (u 4), idMax := lim 0 32767 (u 5)
              ocThreshold := lim 1024 32767 (u 6), offLim := lim 0 4095 (u 7), t1 := temp 8, t2 := temp 9, t3 := temp 10
              tHyst := lim 0 500 (u 11), f1 := lim 0 32767 (u 12), f2 := lim 0 32767 (u 13), uLo := u 14, uHi := u 15
              uHyst := u 16, nStale := lim 1 15 (u 17) }
          let band : BandEntry :=
            { period := lim 1 1048575 (wide 0), limitA := lim 0 32767 (u 2), limitB := lim 0 32767 (u 3)
              total := lim 0 65534 (u 4) }
          let torque : TorqueScalars :=
            { lcontA := lim 0 32767 (u 0), lcontB := lim 0 32767 (u 1), lcontTotal := lim 0 65534 (u 2)
              accMax := lim 0 2000000000 (wide 3), accRelease := lim 0 2000000000 (wide 5), decay := u 7
              derateAction := lim 0 32767 (u 8), rampStep := lim 1 32767 (u 9), imbThr := lim 0 65534 (u 10)
              imbMin := lim 0 65534 (u 11), imbCount := lim 1 65535 (u 12), stallTime := lim 0 1048575 (wide 13) }
          let channel : ChannelEntry :=
            { enable := on 0
              alert := #v[lim 0 32767 (u 1), lim 0 32767 (u 2), lim 0 32767 (u 3), lim 0 32767 (u 4)]
              alarm := #v[lim 0 32767 (u 5), lim 0 32767 (u 6), lim 0 32767 (u 7), lim 0 32767 (u 8)]
              trip := #v[lim 0 32767 (u 9), lim 0 32767 (u 10), lim 0 32767 (u 11), lim 0 32767 (u 12)] }
          let vibration : VibrationScalars :=
            { g := lim 2 8 (u 0) - lim 2 8 (u 0) % 2, w := lim 4 12 (u 1), k := lim 4 12 (u 2), pUp := lim 1 8 (u 3)
              pDown := lim 1 8 (u 4), hyst := lim 0 32767 (u 5), vp1 := lim 1 1048575 (wide 6), vp2 := lim 1 1048575 (wide 8)
              vp3 := lim 1 1048575 (wide 10)
              derate := #v[lim 0 32767 (u 12), lim 0 32767 (u 13), lim 0 32767 (u 14), lim 0 32767 (u 15)]
              refLo := sg 16, refHi := sg 17, flatFloor := lim 0 1073676289 (wide 18), flatCount := lim 1 255 (u 20)
              minShift := lim 0 65534 (u 21), nW := lim 8 256 (u 22) }
          let action : ActionEntry :=
            { action := if u 0 = 0 then .ignore else if u 0 = 1 then .notice else if u 0 = 2 then .derate
                else if u 0 = 3 then .hold else .trip
              capture := on 1, log := on 2, latch := on 3, priority := if u 4 = 0 then .high else .low }
          let input : TripInputEntry :=
            { sense := if u 0 = 0 then .levelLow else if u 0 = 1 then .levelHigh else if u 0 = 2 then .falling
                else if u 0 = 3 then .rising else .bothEdges
              minDuration := lim 0 1000 (u 1) }
          let marker : MarkerEntry :=
            { edge := if u 0 = 0 then .rising else .falling, minPeriod := lim 0 1048574 (wide 1)
              maxPeriod := lim 1 1048575 (wide 3) }
          let link : LinkEntry := { timeout := lim 1 65535 (u 0), lockCode := Fin.ofNat 4 (lim 0 3 (u 1)), relock := on 2 }
          let bank : Tables := match tb with
            | .motor => { b with motor := if i = 0 then { b.motor with a := motor } else { b.motor with b := motor } }
            | .torque => { b with torque :=
                if h : i < 8 then { b.torque with bands := b.torque.bands.set i band }
                else { b.torque with scalars := torque } }
            | .vibration => { b with vibration :=
                if h : i < 8 then { b.vibration with channels := b.vibration.channels.set i channel }
                else { b.vibration with scalars := vibration } }
            | .action => { b with action := if h : i < 31 then b.action.set i action else b.action }
            | .line => { b with line :=
                if h : i < 4 then { b.line with tin := b.line.tin.set i input }
                else if i = 4 then { b.line with marker := marker }
                else if i = 5 then { b.line with linkC := link }
                else if i = 6 then { b.line with linkA := link }
                else if i = 7 then { b.line with linkB := link }
                else if i = 8 then { b.line with linkS := link }
                else { b.line with nPost := lim 0 255 (u 0) } }
          let full (n : Nat) : Nat × Nat × Nat := (u n, 0, 32767)
          let flag (n : Nat) : Nat × Nat × Nat := (u n, 0, 1)
          let limits : List (Nat × Nat × Nat) := match tb with
            | .motor =>
              [(u 4, 8192, 32767), full 5, (u 6, 1024, 32767), (u 7, 0, 4095), (u 11, 0, 500), full 12, full 13, (u 17, 1, 15)]
            | .torque =>
              if i < 8 then [(wide 0, 1, 1048575), full 2, full 3, (u 4, 0, 65534)]
              else [full 0, full 1, (u 2, 0, 65534), (wide 3, 0, 2000000000), (wide 5, 0, 2000000000), full 8, (u 9, 1, 32767),
                (u 10, 0, 65534), (u 11, 0, 65534), (u 12, 1, 65535), (wide 13, 0, 1048575)]
            | .vibration =>
              if i < 8 then flag 0 :: (List.range 12).map fun n => full (n + 1)
              else [(u 1, 4, 12), (u 2, 4, 12), (u 3, 1, 8), (u 4, 1, 8), full 5, (wide 6, 1, 1048575), (wide 8, 1, 1048575),
                (wide 10, 1, 1048575), full 12, full 13, full 14, full 15, (wide 18, 0, 1073676289), (u 20, 1, 255),
                (u 21, 0, 65534), (u 22, 8, 256)]
            | .action => [(u 0, 0, 4), flag 1, flag 2, flag 3, flag 4]
            | .line =>
              if i < 4 then [(u 0, 0, 4), (u 1, 0, 1000)]
              else if i = 4 then [flag 0, (wide 1, 0, 1048574), (wide 3, 1, 1048575)]
              else if i = 9 then [(u 0, 0, 255)]
              else [(u 0, 1, 65535), (u 1, 0, 3), flag 2]
          let temps : List Int := if tb = .motor then [sg 8, sg 9, sg 10] else []
          let changed : Nat :=
            (limits.filter fun x => decide (x.1 < x.2.1 ∨ x.2.2 < x.1)).length +
            (temps.filter fun x => decide (x < -400 ∨ 2000 < x)).length +
            (if tb = .vibration ∧ i = 8 ∧ vibration.g ≠ u 0 then 1 else 0)
          exec (.writeEntry tag table index values) s = .next
            (State.withReply { v with me := { s.me with standby := bank } } tag 3
              (if changed = 0 then .done else .clamped) [BitVec.ofNat 16 changed]) ∧
          ∃ fs old, b.entry tb i = some (fs, old) ∧ bank.entry tb i = some (fs, limitFields fs (readFields fs values))))

/-- COPY BANK and SWITCH BANK (R171, R172): the order in which each is refused, the copy of every entry, the pending flag, and the
relations a standby bank must meet, with the lowest index that offends. Nothing else changes. -/
def Obligations.BanksAreCopiedAndSwitched : Prop :=
  (∀ (tag : Byte) (table : Word) (s : State), s.ready →
    let v := s.heardC
    (4 < table.toNat →
      exec (.copyBank tag table) s = .next (v.withReply tag 4 .badIndex []) ∧
      exec (.switchBank tag table) s = .next (v.withReply tag 5 .badIndex [0])) ∧
    ∀ tb, table = BitVec.ofNat 16 tb.code →
      (s.me.pendingSwitch.get tb = true →
        exec (.copyBank tag table) s = .next (v.withReply tag 4 .refusedBusy []) ∧
        exec (.switchBank tag table) s = .next (v.withReply tag 5 .refusedBusy [0])) ∧
      (s.me.pendingSwitch.get tb = false →
        (let a := s.me.active
          let b := s.me.standby
          let bank : Tables := match tb with
            | .motor => { b with motor := a.motor }
            | .torque => { b with torque := a.torque }
            | .vibration => { b with vibration := a.vibration }
            | .action => { b with action := a.action }
            | .line => { b with line := a.line }
          exec (.copyBank tag table) s = .next
            (State.withReply { v with me := { s.me with standby := bank } } tag 4 .done [])) ∧
        (∀ n, s.me.standby.offending tb = some n →
          exec (.switchBank tag table) s = .next (v.withReply tag 5 .badTable [BitVec.ofNat 16 n])) ∧
        (s.me.standby.offending tb = none →
          ∃ flags, exec (.switchBank tag table) s = .next
              (State.withReply { v with me := { s.me with pendingSwitch := flags } } tag 5 .pending [0]) ∧
            ∀ t', flags.get t' = (s.me.pendingSwitch.get t' || decide (t' = tb))))) ∧
  (∀ b : Tables,
    let offends (tb : TableId) (bad : Nat → Prop) : Prop :=
      (∀ n, b.offending tb = some n ↔ bad n ∧ ∀ k, k < n → ¬ bad k)
    let p (n : Fin 8) : Nat := b.torque.bands[n].period
    let motorBad (e : MotorEntry) : Prop := ¬ (e.t1 ≤ e.t2 ∧ e.t2 ≤ e.t3 ∧ e.uLo < e.uHi)
    let k := b.vibration.scalars
    offends .motor (fun n => (n = 0 ∧ motorBad b.motor.a) ∨ (n = 1 ∧ motorBad b.motor.b)) ∧
    offends .torque (fun n =>
      (∃ j : Fin 8, 2 ≤ j.val ∧ n = j.val ∧ p (j - 1) ≤ p j) ∨
      (n = 8 ∧ b.torque.scalars.accMax ≤ b.torque.scalars.accRelease)) ∧
    offends .vibration (fun n =>
      (∃ c : Fin 8, n = c.val ∧ ∃ i : Fin 4,
        ¬ (b.vibration.channels[c].alert[i] ≤ b.vibration.channels[c].alarm[i] ∧
          b.vibration.channels[c].alarm[i] ≤ b.vibration.channels[c].trip[i])) ∨
      (n = 8 ∧ ¬ (k.vp2 < k.vp1 ∧ k.vp3 < k.vp2 ∧ k.refLo < k.refHi))) ∧
    offends .action (fun _ => False) ∧
    offends .line (fun n => n = 4 ∧ b.line.marker.maxPeriod ≤ b.line.marker.minPeriod))

/-- ERASE LOG, CALIBRATE and WIRE CHECK (R24, R85, R144): the order in which each is refused, and what each begins. That the slots of sector
0 read Invalid from the acceptance of ERASE LOG, where R132 and R145 say only that its records cease to exist, is the model's (log entry
24). -/
def Obligations.LongOperationsBegin : Prop :=
  ∀ (tag : Byte) (s : State), s.ready →
    let v := s.heardC
    (s.rs.state ≠ .idle → s.rs.state ≠ .fault →
      exec (.eraseLog tag) s = .next (v.withReply tag 13 .refusedBusy [])) ∧
    (s.rs.state = .idle ∨ s.rs.state = .fault →
      (s.running = true → exec (.eraseLog tag) s = .next (v.withReply tag 13 .refusedState [])) ∧
      (s.running = false →
        ∃ array, exec (.eraseLog tag) s = .next
            (State.withReply { v with rs := { s.rs with state := .clearing 0, array := array } } tag 13 .pending []) ∧
          ∀ n, slotAt n array = if n < 16 then some .invalid else slotAt n s.rs.array)) ∧
    (∀ w : Word, 2 ≤ w.toNat → exec (.calibrate tag w) s = .next (v.withReply tag 14 .badIndex [])) ∧
    (∀ (m : Motor) (w : Word), w = BitVec.ofNat 16 (motorCode m) →
      ((s.reg m).calibration ≠ none → exec (.calibrate tag w) s = .next (v.withReply tag 14 .refusedBusy [])) ∧
      ((s.reg m).calibration = none →
        (s.running = true ∨ (s.link (powerLink m)).state ≠ .locked →
          exec (.calibrate tag w) s = .next (v.withReply tag 14 .refusedState [])) ∧
        (s.running = false → (s.link (powerLink m)).state = .locked →
          exec (.calibrate tag w) s = .next
            (State.withReply
              (v.setReg m { s.reg m with calibration := some { count := 0, sumA := 0, sumB := 0 } }) tag 14 .pending [])))) ∧
    (∀ w : Word, 8 ≤ w.toNat → exec (.wireCheck tag w) s = .next (v.withReply tag 15 .badIndex [])) ∧
    (∀ (c : Fin 8) (w : Word), w = BitVec.ofNat 16 c.val →
      let k := s.act.vibration
      let out := !k.channels[c].enable || decide (k.scalars.g ≤ c.val)
      (out = true → exec (.wireCheck tag w) s = .next (v.withReply tag 15 .badIndex [])) ∧
      (out = false → s.scu.wire ≠ none → exec (.wireCheck tag w) s = .next (v.withReply tag 15 .refusedBusy [])) ∧
      (out = false → s.scu.wire = none → (s.linkS.state ≠ .locked ∨ s.scu.refFail = true) →
        exec (.wireCheck tag w) s = .next (v.withReply tag 15 .refusedState [])) ∧
      (out = false → s.scu.wire = none → s.linkS.state = .locked → s.scu.refFail = false →
        exec (.wireCheck tag w) s = .next
          (State.withReply { v with scu := { s.scu with
              wire := some { channel := c, inject := false, count := 0, sBase := 0, sInject := 0, nW := k.scalars.nW,
                             minShift := k.scalars.minShift } } } tag 15 .pending [])))

/-- SET TIME, SET NOTICE MASK, CLEAR RESTART CAUSE, RESET and the step of the seconds counter (R116 to R118, R149, R150, R176, R178). An
accepted RESET begins and is released in its event: every block at its reset values, RESTART raised, the restart cause set gaining the
member requested. That the reset values include P_0 at 1 in both banks is log entry 8 (the manual gives P_0 no default), that the upstream
line is then idle, with no Report waiting, is log entry 16, that the record store's time base starts again at 0 is log entry 43, and the
phase of the time bases is the model's own field (log entry 2); what a cut erase leaves of each slot is free (log entry 4). The command of the
seconds counter's step is the step of 0.1 ms that completes the second; with longer to run it changes nothing (log entry 3). A SET TIME
starts the second again. -/
def Obligations.EngineRegistersAreSet : Prop :=
  ∀ (tag : Byte) (s : State),
    (s.inReset = false → 9999 ≤ s.time.secondTenths →
      exec .secondsCounterStep s = .next { s with
        me := { s.me with seconds := min (s.me.seconds + 1) 4294967295 }
        time := { s.time with secondTenths := 0 } }) ∧
    (s.time.secondTenths < 9999 → exec .secondsCounterStep s = .next s) ∧
    (s.ready →
      let v := s.heardC
      (∀ hi lo : Word,
        exec (.setTime tag hi lo) s = .next
          (State.withReply { v with
            me := { s.me with seconds := hi.toNat * 65536 + lo.toNat, timeSet := true }
            time := { s.time with secondTenths := 0 } } tag 17 .done [])) ∧
      (∀ w : Word,
        ∃ mask, exec (.setNoticeMask tag w) s = .next
            (State.withReply { v with me := { s.me with mask := mask } } tag 18 .done [s.me.mask]) ∧
          ∀ n, mask.getLsbD n = (w.getLsbD n && decide (1 ≤ n ∧ n ≤ 10))) ∧
      exec (.clearRestartCause tag) s = .next
        (State.withReply { v with
          tu := { s.tu with restart := { powerOn := false, line := false, requested := false } } } tag 20 .done
          [BitVec.ofNat 16 ((if s.tu.restart.powerOn then 1 else 0) + (if s.tu.restart.line then 2 else 0)
            + (if s.tu.restart.requested then 4 else 0))]) ∧
      (s.running = true → exec (.reset tag) s = .next (v.withReply tag 19 .refusedState [])) ∧
      (s.running = false → Slots.Ok 64 s.rs.array →
        ∃ u, exec (.reset tag) s = .next u.afterRelease ∧ BlocksReset u ∧ CutArray s.rs u.rs.array ∧
          u.tu.restart = { s.tu.restart with requested := true } ∧ u.supply = s.supply ∧ u.held = s.held ∧
          u.pins = s.pins ∧ u.sent = s.sent ∧ u.pending = s.pending))

end
end

