-- ==== Sys2Proof/Laws/State.lean ====
section
/-! SUPPORT. One lemma for each field after each one-field update of State, and one for the update done twice: later proofs never
unfold a record update. -/

namespace Sys2Proof.Machine

@[simp] theorem State.setSupply_supply (s : State) (x : Bool) : (s.setSupply x).supply = x := rfl
@[simp] theorem State.setSupply_held (s : State) (x : Bool) : (s.setSupply x).held = s.held := rfl
@[simp] theorem State.setSupply_pins (s : State) (x : Bool) : (s.setSupply x).pins = s.pins := rfl
@[simp] theorem State.setSupply_regA (s : State) (x : Bool) : (s.setSupply x).regA = s.regA := rfl
@[simp] theorem State.setSupply_regB (s : State) (x : Bool) : (s.setSupply x).regB = s.regB := rfl
@[simp] theorem State.setSupply_tl (s : State) (x : Bool) : (s.setSupply x).tl = s.tl := rfl
@[simp] theorem State.setSupply_mt (s : State) (x : Bool) : (s.setSupply x).mt = s.mt := rfl
@[simp] theorem State.setSupply_vm (s : State) (x : Bool) : (s.setSupply x).vm = s.vm := rfl
@[simp] theorem State.setSupply_scu (s : State) (x : Bool) : (s.setSupply x).scu = s.scu := rfl
@[simp] theorem State.setSupply_tu (s : State) (x : Bool) : (s.setSupply x).tu = s.tu := rfl
@[simp] theorem State.setSupply_cb (s : State) (x : Bool) : (s.setSupply x).cb = s.cb := rfl
@[simp] theorem State.setSupply_rs (s : State) (x : Bool) : (s.setSupply x).rs = s.rs := rfl
@[simp] theorem State.setSupply_linkC (s : State) (x : Bool) : (s.setSupply x).linkC = s.linkC := rfl
@[simp] theorem State.setSupply_linkA (s : State) (x : Bool) : (s.setSupply x).linkA = s.linkA := rfl
@[simp] theorem State.setSupply_linkB (s : State) (x : Bool) : (s.setSupply x).linkB = s.linkB := rfl
@[simp] theorem State.setSupply_linkS (s : State) (x : Bool) : (s.setSupply x).linkS = s.linkS := rfl
@[simp] theorem State.setSupply_up (s : State) (x : Bool) : (s.setSupply x).up = s.up := rfl
@[simp] theorem State.setSupply_me (s : State) (x : Bool) : (s.setSupply x).me = s.me := rfl
@[simp] theorem State.setSupply_time (s : State) (x : Bool) : (s.setSupply x).time = s.time := rfl
@[simp] theorem State.setSupply_draws (s : State) (x : Bool) : (s.setSupply x).draws = s.draws := rfl
@[simp] theorem State.setSupply_sent (s : State) (x : Bool) : (s.setSupply x).sent = s.sent := rfl
@[simp] theorem State.setSupply_pending (s : State) (x : Bool) : (s.setSupply x).pending = s.pending := rfl
@[simp] theorem State.setSupply_setSupply (s : State) (x y : Bool) : (s.setSupply x).setSupply y = s.setSupply y := rfl
@[simp] theorem State.setSupply_self (s : State) : s.setSupply s.supply = s := rfl

@[simp] theorem State.setHeld_supply (s : State) (x : ResetHold) : (s.setHeld x).supply = s.supply := rfl
@[simp] theorem State.setHeld_held (s : State) (x : ResetHold) : (s.setHeld x).held = x := rfl
@[simp] theorem State.setHeld_pins (s : State) (x : ResetHold) : (s.setHeld x).pins = s.pins := rfl
@[simp] theorem State.setHeld_regA (s : State) (x : ResetHold) : (s.setHeld x).regA = s.regA := rfl
@[simp] theorem State.setHeld_regB (s : State) (x : ResetHold) : (s.setHeld x).regB = s.regB := rfl
@[simp] theorem State.setHeld_tl (s : State) (x : ResetHold) : (s.setHeld x).tl = s.tl := rfl
@[simp] theorem State.setHeld_mt (s : State) (x : ResetHold) : (s.setHeld x).mt = s.mt := rfl
@[simp] theorem State.setHeld_vm (s : State) (x : ResetHold) : (s.setHeld x).vm = s.vm := rfl
@[simp] theorem State.setHeld_scu (s : State) (x : ResetHold) : (s.setHeld x).scu = s.scu := rfl
@[simp] theorem State.setHeld_tu (s : State) (x : ResetHold) : (s.setHeld x).tu = s.tu := rfl
@[simp] theorem State.setHeld_cb (s : State) (x : ResetHold) : (s.setHeld x).cb = s.cb := rfl
@[simp] theorem State.setHeld_rs (s : State) (x : ResetHold) : (s.setHeld x).rs = s.rs := rfl
@[simp] theorem State.setHeld_linkC (s : State) (x : ResetHold) : (s.setHeld x).linkC = s.linkC := rfl
@[simp] theorem State.setHeld_linkA (s : State) (x : ResetHold) : (s.setHeld x).linkA = s.linkA := rfl
@[simp] theorem State.setHeld_linkB (s : State) (x : ResetHold) : (s.setHeld x).linkB = s.linkB := rfl
@[simp] theorem State.setHeld_linkS (s : State) (x : ResetHold) : (s.setHeld x).linkS = s.linkS := rfl
@[simp] theorem State.setHeld_up (s : State) (x : ResetHold) : (s.setHeld x).up = s.up := rfl
@[simp] theorem State.setHeld_me (s : State) (x : ResetHold) : (s.setHeld x).me = s.me := rfl
@[simp] theorem State.setHeld_time (s : State) (x : ResetHold) : (s.setHeld x).time = s.time := rfl
@[simp] theorem State.setHeld_draws (s : State) (x : ResetHold) : (s.setHeld x).draws = s.draws := rfl
@[simp] theorem State.setHeld_sent (s : State) (x : ResetHold) : (s.setHeld x).sent = s.sent := rfl
@[simp] theorem State.setHeld_pending (s : State) (x : ResetHold) : (s.setHeld x).pending = s.pending := rfl
@[simp] theorem State.setHeld_setHeld (s : State) (x y : ResetHold) : (s.setHeld x).setHeld y = s.setHeld y := rfl
@[simp] theorem State.setHeld_self (s : State) : s.setHeld s.held = s := rfl

@[simp] theorem State.setPins_supply (s : State) (x : Pins) : (s.setPins x).supply = s.supply := rfl
@[simp] theorem State.setPins_held (s : State) (x : Pins) : (s.setPins x).held = s.held := rfl
@[simp] theorem State.setPins_pins (s : State) (x : Pins) : (s.setPins x).pins = x := rfl
@[simp] theorem State.setPins_regA (s : State) (x : Pins) : (s.setPins x).regA = s.regA := rfl
@[simp] theorem State.setPins_regB (s : State) (x : Pins) : (s.setPins x).regB = s.regB := rfl
@[simp] theorem State.setPins_tl (s : State) (x : Pins) : (s.setPins x).tl = s.tl := rfl
@[simp] theorem State.setPins_mt (s : State) (x : Pins) : (s.setPins x).mt = s.mt := rfl
@[simp] theorem State.setPins_vm (s : State) (x : Pins) : (s.setPins x).vm = s.vm := rfl
@[simp] theorem State.setPins_scu (s : State) (x : Pins) : (s.setPins x).scu = s.scu := rfl
@[simp] theorem State.setPins_tu (s : State) (x : Pins) : (s.setPins x).tu = s.tu := rfl
@[simp] theorem State.setPins_cb (s : State) (x : Pins) : (s.setPins x).cb = s.cb := rfl
@[simp] theorem State.setPins_rs (s : State) (x : Pins) : (s.setPins x).rs = s.rs := rfl
@[simp] theorem State.setPins_linkC (s : State) (x : Pins) : (s.setPins x).linkC = s.linkC := rfl
@[simp] theorem State.setPins_linkA (s : State) (x : Pins) : (s.setPins x).linkA = s.linkA := rfl
@[simp] theorem State.setPins_linkB (s : State) (x : Pins) : (s.setPins x).linkB = s.linkB := rfl
@[simp] theorem State.setPins_linkS (s : State) (x : Pins) : (s.setPins x).linkS = s.linkS := rfl
@[simp] theorem State.setPins_up (s : State) (x : Pins) : (s.setPins x).up = s.up := rfl
@[simp] theorem State.setPins_me (s : State) (x : Pins) : (s.setPins x).me = s.me := rfl
@[simp] theorem State.setPins_time (s : State) (x : Pins) : (s.setPins x).time = s.time := rfl
@[simp] theorem State.setPins_draws (s : State) (x : Pins) : (s.setPins x).draws = s.draws := rfl
@[simp] theorem State.setPins_sent (s : State) (x : Pins) : (s.setPins x).sent = s.sent := rfl
@[simp] theorem State.setPins_pending (s : State) (x : Pins) : (s.setPins x).pending = s.pending := rfl
@[simp] theorem State.setPins_setPins (s : State) (x y : Pins) : (s.setPins x).setPins y = s.setPins y := rfl
@[simp] theorem State.setPins_self (s : State) : s.setPins s.pins = s := rfl

@[simp] theorem State.setRegA_supply (s : State) (x : Regulator) : (s.setRegA x).supply = s.supply := rfl
@[simp] theorem State.setRegA_held (s : State) (x : Regulator) : (s.setRegA x).held = s.held := rfl
@[simp] theorem State.setRegA_pins (s : State) (x : Regulator) : (s.setRegA x).pins = s.pins := rfl
@[simp] theorem State.setRegA_regA (s : State) (x : Regulator) : (s.setRegA x).regA = x := rfl
@[simp] theorem State.setRegA_regB (s : State) (x : Regulator) : (s.setRegA x).regB = s.regB := rfl
@[simp] theorem State.setRegA_tl (s : State) (x : Regulator) : (s.setRegA x).tl = s.tl := rfl
@[simp] theorem State.setRegA_mt (s : State) (x : Regulator) : (s.setRegA x).mt = s.mt := rfl
@[simp] theorem State.setRegA_vm (s : State) (x : Regulator) : (s.setRegA x).vm = s.vm := rfl
@[simp] theorem State.setRegA_scu (s : State) (x : Regulator) : (s.setRegA x).scu = s.scu := rfl
@[simp] theorem State.setRegA_tu (s : State) (x : Regulator) : (s.setRegA x).tu = s.tu := rfl
@[simp] theorem State.setRegA_cb (s : State) (x : Regulator) : (s.setRegA x).cb = s.cb := rfl
@[simp] theorem State.setRegA_rs (s : State) (x : Regulator) : (s.setRegA x).rs = s.rs := rfl
@[simp] theorem State.setRegA_linkC (s : State) (x : Regulator) : (s.setRegA x).linkC = s.linkC := rfl
@[simp] theorem State.setRegA_linkA (s : State) (x : Regulator) : (s.setRegA x).linkA = s.linkA := rfl
@[simp] theorem State.setRegA_linkB (s : State) (x : Regulator) : (s.setRegA x).linkB = s.linkB := rfl
@[simp] theorem State.setRegA_linkS (s : State) (x : Regulator) : (s.setRegA x).linkS = s.linkS := rfl
@[simp] theorem State.setRegA_up (s : State) (x : Regulator) : (s.setRegA x).up = s.up := rfl
@[simp] theorem State.setRegA_me (s : State) (x : Regulator) : (s.setRegA x).me = s.me := rfl
@[simp] theorem State.setRegA_time (s : State) (x : Regulator) : (s.setRegA x).time = s.time := rfl
@[simp] theorem State.setRegA_draws (s : State) (x : Regulator) : (s.setRegA x).draws = s.draws := rfl
@[simp] theorem State.setRegA_sent (s : State) (x : Regulator) : (s.setRegA x).sent = s.sent := rfl
@[simp] theorem State.setRegA_pending (s : State) (x : Regulator) : (s.setRegA x).pending = s.pending := rfl
@[simp] theorem State.setRegA_setRegA (s : State) (x y : Regulator) : (s.setRegA x).setRegA y = s.setRegA y := rfl
@[simp] theorem State.setRegA_self (s : State) : s.setRegA s.regA = s := rfl

@[simp] theorem State.setRegB_supply (s : State) (x : Regulator) : (s.setRegB x).supply = s.supply := rfl
@[simp] theorem State.setRegB_held (s : State) (x : Regulator) : (s.setRegB x).held = s.held := rfl
@[simp] theorem State.setRegB_pins (s : State) (x : Regulator) : (s.setRegB x).pins = s.pins := rfl
@[simp] theorem State.setRegB_regA (s : State) (x : Regulator) : (s.setRegB x).regA = s.regA := rfl
@[simp] theorem State.setRegB_regB (s : State) (x : Regulator) : (s.setRegB x).regB = x := rfl
@[simp] theorem State.setRegB_tl (s : State) (x : Regulator) : (s.setRegB x).tl = s.tl := rfl
@[simp] theorem State.setRegB_mt (s : State) (x : Regulator) : (s.setRegB x).mt = s.mt := rfl
@[simp] theorem State.setRegB_vm (s : State) (x : Regulator) : (s.setRegB x).vm = s.vm := rfl
@[simp] theorem State.setRegB_scu (s : State) (x : Regulator) : (s.setRegB x).scu = s.scu := rfl
@[simp] theorem State.setRegB_tu (s : State) (x : Regulator) : (s.setRegB x).tu = s.tu := rfl
@[simp] theorem State.setRegB_cb (s : State) (x : Regulator) : (s.setRegB x).cb = s.cb := rfl
@[simp] theorem State.setRegB_rs (s : State) (x : Regulator) : (s.setRegB x).rs = s.rs := rfl
@[simp] theorem State.setRegB_linkC (s : State) (x : Regulator) : (s.setRegB x).linkC = s.linkC := rfl
@[simp] theorem State.setRegB_linkA (s : State) (x : Regulator) : (s.setRegB x).linkA = s.linkA := rfl
@[simp] theorem State.setRegB_linkB (s : State) (x : Regulator) : (s.setRegB x).linkB = s.linkB := rfl
@[simp] theorem State.setRegB_linkS (s : State) (x : Regulator) : (s.setRegB x).linkS = s.linkS := rfl
@[simp] theorem State.setRegB_up (s : State) (x : Regulator) : (s.setRegB x).up = s.up := rfl
@[simp] theorem State.setRegB_me (s : State) (x : Regulator) : (s.setRegB x).me = s.me := rfl
@[simp] theorem State.setRegB_time (s : State) (x : Regulator) : (s.setRegB x).time = s.time := rfl
@[simp] theorem State.setRegB_draws (s : State) (x : Regulator) : (s.setRegB x).draws = s.draws := rfl
@[simp] theorem State.setRegB_sent (s : State) (x : Regulator) : (s.setRegB x).sent = s.sent := rfl
@[simp] theorem State.setRegB_pending (s : State) (x : Regulator) : (s.setRegB x).pending = s.pending := rfl
@[simp] theorem State.setRegB_setRegB (s : State) (x y : Regulator) : (s.setRegB x).setRegB y = s.setRegB y := rfl
@[simp] theorem State.setRegB_self (s : State) : s.setRegB s.regB = s := rfl

@[simp] theorem State.setTl_supply (s : State) (x : Limiter) : (s.setTl x).supply = s.supply := rfl
@[simp] theorem State.setTl_held (s : State) (x : Limiter) : (s.setTl x).held = s.held := rfl
@[simp] theorem State.setTl_pins (s : State) (x : Limiter) : (s.setTl x).pins = s.pins := rfl
@[simp] theorem State.setTl_regA (s : State) (x : Limiter) : (s.setTl x).regA = s.regA := rfl
@[simp] theorem State.setTl_regB (s : State) (x : Limiter) : (s.setTl x).regB = s.regB := rfl
@[simp] theorem State.setTl_tl (s : State) (x : Limiter) : (s.setTl x).tl = x := rfl
@[simp] theorem State.setTl_mt (s : State) (x : Limiter) : (s.setTl x).mt = s.mt := rfl
@[simp] theorem State.setTl_vm (s : State) (x : Limiter) : (s.setTl x).vm = s.vm := rfl
@[simp] theorem State.setTl_scu (s : State) (x : Limiter) : (s.setTl x).scu = s.scu := rfl
@[simp] theorem State.setTl_tu (s : State) (x : Limiter) : (s.setTl x).tu = s.tu := rfl
@[simp] theorem State.setTl_cb (s : State) (x : Limiter) : (s.setTl x).cb = s.cb := rfl
@[simp] theorem State.setTl_rs (s : State) (x : Limiter) : (s.setTl x).rs = s.rs := rfl
@[simp] theorem State.setTl_linkC (s : State) (x : Limiter) : (s.setTl x).linkC = s.linkC := rfl
@[simp] theorem State.setTl_linkA (s : State) (x : Limiter) : (s.setTl x).linkA = s.linkA := rfl
@[simp] theorem State.setTl_linkB (s : State) (x : Limiter) : (s.setTl x).linkB = s.linkB := rfl
@[simp] theorem State.setTl_linkS (s : State) (x : Limiter) : (s.setTl x).linkS = s.linkS := rfl
@[simp] theorem State.setTl_up (s : State) (x : Limiter) : (s.setTl x).up = s.up := rfl
@[simp] theorem State.setTl_me (s : State) (x : Limiter) : (s.setTl x).me = s.me := rfl
@[simp] theorem State.setTl_time (s : State) (x : Limiter) : (s.setTl x).time = s.time := rfl
@[simp] theorem State.setTl_draws (s : State) (x : Limiter) : (s.setTl x).draws = s.draws := rfl
@[simp] theorem State.setTl_sent (s : State) (x : Limiter) : (s.setTl x).sent = s.sent := rfl
@[simp] theorem State.setTl_pending (s : State) (x : Limiter) : (s.setTl x).pending = s.pending := rfl
@[simp] theorem State.setTl_setTl (s : State) (x y : Limiter) : (s.setTl x).setTl y = s.setTl y := rfl
@[simp] theorem State.setTl_self (s : State) : s.setTl s.tl = s := rfl

@[simp] theorem State.setMt_supply (s : State) (x : MarkerTimer) : (s.setMt x).supply = s.supply := rfl
@[simp] theorem State.setMt_held (s : State) (x : MarkerTimer) : (s.setMt x).held = s.held := rfl
@[simp] theorem State.setMt_pins (s : State) (x : MarkerTimer) : (s.setMt x).pins = s.pins := rfl
@[simp] theorem State.setMt_regA (s : State) (x : MarkerTimer) : (s.setMt x).regA = s.regA := rfl
@[simp] theorem State.setMt_regB (s : State) (x : MarkerTimer) : (s.setMt x).regB = s.regB := rfl
@[simp] theorem State.setMt_tl (s : State) (x : MarkerTimer) : (s.setMt x).tl = s.tl := rfl
@[simp] theorem State.setMt_mt (s : State) (x : MarkerTimer) : (s.setMt x).mt = x := rfl
@[simp] theorem State.setMt_vm (s : State) (x : MarkerTimer) : (s.setMt x).vm = s.vm := rfl
@[simp] theorem State.setMt_scu (s : State) (x : MarkerTimer) : (s.setMt x).scu = s.scu := rfl
@[simp] theorem State.setMt_tu (s : State) (x : MarkerTimer) : (s.setMt x).tu = s.tu := rfl
@[simp] theorem State.setMt_cb (s : State) (x : MarkerTimer) : (s.setMt x).cb = s.cb := rfl
@[simp] theorem State.setMt_rs (s : State) (x : MarkerTimer) : (s.setMt x).rs = s.rs := rfl
@[simp] theorem State.setMt_linkC (s : State) (x : MarkerTimer) : (s.setMt x).linkC = s.linkC := rfl
@[simp] theorem State.setMt_linkA (s : State) (x : MarkerTimer) : (s.setMt x).linkA = s.linkA := rfl
@[simp] theorem State.setMt_linkB (s : State) (x : MarkerTimer) : (s.setMt x).linkB = s.linkB := rfl
@[simp] theorem State.setMt_linkS (s : State) (x : MarkerTimer) : (s.setMt x).linkS = s.linkS := rfl
@[simp] theorem State.setMt_up (s : State) (x : MarkerTimer) : (s.setMt x).up = s.up := rfl
@[simp] theorem State.setMt_me (s : State) (x : MarkerTimer) : (s.setMt x).me = s.me := rfl
@[simp] theorem State.setMt_time (s : State) (x : MarkerTimer) : (s.setMt x).time = s.time := rfl
@[simp] theorem State.setMt_draws (s : State) (x : MarkerTimer) : (s.setMt x).draws = s.draws := rfl
@[simp] theorem State.setMt_sent (s : State) (x : MarkerTimer) : (s.setMt x).sent = s.sent := rfl
@[simp] theorem State.setMt_pending (s : State) (x : MarkerTimer) : (s.setMt x).pending = s.pending := rfl
@[simp] theorem State.setMt_setMt (s : State) (x y : MarkerTimer) : (s.setMt x).setMt y = s.setMt y := rfl
@[simp] theorem State.setMt_self (s : State) : s.setMt s.mt = s := rfl

@[simp] theorem State.setVm_supply (s : State) (x : VibrationMonitor) : (s.setVm x).supply = s.supply := rfl
@[simp] theorem State.setVm_held (s : State) (x : VibrationMonitor) : (s.setVm x).held = s.held := rfl
@[simp] theorem State.setVm_pins (s : State) (x : VibrationMonitor) : (s.setVm x).pins = s.pins := rfl
@[simp] theorem State.setVm_regA (s : State) (x : VibrationMonitor) : (s.setVm x).regA = s.regA := rfl
@[simp] theorem State.setVm_regB (s : State) (x : VibrationMonitor) : (s.setVm x).regB = s.regB := rfl
@[simp] theorem State.setVm_tl (s : State) (x : VibrationMonitor) : (s.setVm x).tl = s.tl := rfl
@[simp] theorem State.setVm_mt (s : State) (x : VibrationMonitor) : (s.setVm x).mt = s.mt := rfl
@[simp] theorem State.setVm_vm (s : State) (x : VibrationMonitor) : (s.setVm x).vm = x := rfl
@[simp] theorem State.setVm_scu (s : State) (x : VibrationMonitor) : (s.setVm x).scu = s.scu := rfl
@[simp] theorem State.setVm_tu (s : State) (x : VibrationMonitor) : (s.setVm x).tu = s.tu := rfl
@[simp] theorem State.setVm_cb (s : State) (x : VibrationMonitor) : (s.setVm x).cb = s.cb := rfl
@[simp] theorem State.setVm_rs (s : State) (x : VibrationMonitor) : (s.setVm x).rs = s.rs := rfl
@[simp] theorem State.setVm_linkC (s : State) (x : VibrationMonitor) : (s.setVm x).linkC = s.linkC := rfl
@[simp] theorem State.setVm_linkA (s : State) (x : VibrationMonitor) : (s.setVm x).linkA = s.linkA := rfl
@[simp] theorem State.setVm_linkB (s : State) (x : VibrationMonitor) : (s.setVm x).linkB = s.linkB := rfl
@[simp] theorem State.setVm_linkS (s : State) (x : VibrationMonitor) : (s.setVm x).linkS = s.linkS := rfl
@[simp] theorem State.setVm_up (s : State) (x : VibrationMonitor) : (s.setVm x).up = s.up := rfl
@[simp] theorem State.setVm_me (s : State) (x : VibrationMonitor) : (s.setVm x).me = s.me := rfl
@[simp] theorem State.setVm_time (s : State) (x : VibrationMonitor) : (s.setVm x).time = s.time := rfl
@[simp] theorem State.setVm_draws (s : State) (x : VibrationMonitor) : (s.setVm x).draws = s.draws := rfl
@[simp] theorem State.setVm_sent (s : State) (x : VibrationMonitor) : (s.setVm x).sent = s.sent := rfl
@[simp] theorem State.setVm_pending (s : State) (x : VibrationMonitor) : (s.setVm x).pending = s.pending := rfl
@[simp] theorem State.setVm_setVm (s : State) (x y : VibrationMonitor) : (s.setVm x).setVm y = s.setVm y := rfl
@[simp] theorem State.setVm_self (s : State) : s.setVm s.vm = s := rfl

@[simp] theorem State.setScu_supply (s : State) (x : SensorCheck) : (s.setScu x).supply = s.supply := rfl
@[simp] theorem State.setScu_held (s : State) (x : SensorCheck) : (s.setScu x).held = s.held := rfl
@[simp] theorem State.setScu_pins (s : State) (x : SensorCheck) : (s.setScu x).pins = s.pins := rfl
@[simp] theorem State.setScu_regA (s : State) (x : SensorCheck) : (s.setScu x).regA = s.regA := rfl
@[simp] theorem State.setScu_regB (s : State) (x : SensorCheck) : (s.setScu x).regB = s.regB := rfl
@[simp] theorem State.setScu_tl (s : State) (x : SensorCheck) : (s.setScu x).tl = s.tl := rfl
@[simp] theorem State.setScu_mt (s : State) (x : SensorCheck) : (s.setScu x).mt = s.mt := rfl
@[simp] theorem State.setScu_vm (s : State) (x : SensorCheck) : (s.setScu x).vm = s.vm := rfl
@[simp] theorem State.setScu_scu (s : State) (x : SensorCheck) : (s.setScu x).scu = x := rfl
@[simp] theorem State.setScu_tu (s : State) (x : SensorCheck) : (s.setScu x).tu = s.tu := rfl
@[simp] theorem State.setScu_cb (s : State) (x : SensorCheck) : (s.setScu x).cb = s.cb := rfl
@[simp] theorem State.setScu_rs (s : State) (x : SensorCheck) : (s.setScu x).rs = s.rs := rfl
@[simp] theorem State.setScu_linkC (s : State) (x : SensorCheck) : (s.setScu x).linkC = s.linkC := rfl
@[simp] theorem State.setScu_linkA (s : State) (x : SensorCheck) : (s.setScu x).linkA = s.linkA := rfl
@[simp] theorem State.setScu_linkB (s : State) (x : SensorCheck) : (s.setScu x).linkB = s.linkB := rfl
@[simp] theorem State.setScu_linkS (s : State) (x : SensorCheck) : (s.setScu x).linkS = s.linkS := rfl
@[simp] theorem State.setScu_up (s : State) (x : SensorCheck) : (s.setScu x).up = s.up := rfl
@[simp] theorem State.setScu_me (s : State) (x : SensorCheck) : (s.setScu x).me = s.me := rfl
@[simp] theorem State.setScu_time (s : State) (x : SensorCheck) : (s.setScu x).time = s.time := rfl
@[simp] theorem State.setScu_draws (s : State) (x : SensorCheck) : (s.setScu x).draws = s.draws := rfl
@[simp] theorem State.setScu_sent (s : State) (x : SensorCheck) : (s.setScu x).sent = s.sent := rfl
@[simp] theorem State.setScu_pending (s : State) (x : SensorCheck) : (s.setScu x).pending = s.pending := rfl
@[simp] theorem State.setScu_setScu (s : State) (x y : SensorCheck) : (s.setScu x).setScu y = s.setScu y := rfl
@[simp] theorem State.setScu_self (s : State) : s.setScu s.scu = s := rfl

@[simp] theorem State.setTu_supply (s : State) (x : TripUnit) : (s.setTu x).supply = s.supply := rfl
@[simp] theorem State.setTu_held (s : State) (x : TripUnit) : (s.setTu x).held = s.held := rfl
@[simp] theorem State.setTu_pins (s : State) (x : TripUnit) : (s.setTu x).pins = s.pins := rfl
@[simp] theorem State.setTu_regA (s : State) (x : TripUnit) : (s.setTu x).regA = s.regA := rfl
@[simp] theorem State.setTu_regB (s : State) (x : TripUnit) : (s.setTu x).regB = s.regB := rfl
@[simp] theorem State.setTu_tl (s : State) (x : TripUnit) : (s.setTu x).tl = s.tl := rfl
@[simp] theorem State.setTu_mt (s : State) (x : TripUnit) : (s.setTu x).mt = s.mt := rfl
@[simp] theorem State.setTu_vm (s : State) (x : TripUnit) : (s.setTu x).vm = s.vm := rfl
@[simp] theorem State.setTu_scu (s : State) (x : TripUnit) : (s.setTu x).scu = s.scu := rfl
@[simp] theorem State.setTu_tu (s : State) (x : TripUnit) : (s.setTu x).tu = x := rfl
@[simp] theorem State.setTu_cb (s : State) (x : TripUnit) : (s.setTu x).cb = s.cb := rfl
@[simp] theorem State.setTu_rs (s : State) (x : TripUnit) : (s.setTu x).rs = s.rs := rfl
@[simp] theorem State.setTu_linkC (s : State) (x : TripUnit) : (s.setTu x).linkC = s.linkC := rfl
@[simp] theorem State.setTu_linkA (s : State) (x : TripUnit) : (s.setTu x).linkA = s.linkA := rfl
@[simp] theorem State.setTu_linkB (s : State) (x : TripUnit) : (s.setTu x).linkB = s.linkB := rfl
@[simp] theorem State.setTu_linkS (s : State) (x : TripUnit) : (s.setTu x).linkS = s.linkS := rfl
@[simp] theorem State.setTu_up (s : State) (x : TripUnit) : (s.setTu x).up = s.up := rfl
@[simp] theorem State.setTu_me (s : State) (x : TripUnit) : (s.setTu x).me = s.me := rfl
@[simp] theorem State.setTu_time (s : State) (x : TripUnit) : (s.setTu x).time = s.time := rfl
@[simp] theorem State.setTu_draws (s : State) (x : TripUnit) : (s.setTu x).draws = s.draws := rfl
@[simp] theorem State.setTu_sent (s : State) (x : TripUnit) : (s.setTu x).sent = s.sent := rfl
@[simp] theorem State.setTu_pending (s : State) (x : TripUnit) : (s.setTu x).pending = s.pending := rfl
@[simp] theorem State.setTu_setTu (s : State) (x y : TripUnit) : (s.setTu x).setTu y = s.setTu y := rfl
@[simp] theorem State.setTu_self (s : State) : s.setTu s.tu = s := rfl

@[simp] theorem State.setCb_supply (s : State) (x : CaptureBuffer) : (s.setCb x).supply = s.supply := rfl
@[simp] theorem State.setCb_held (s : State) (x : CaptureBuffer) : (s.setCb x).held = s.held := rfl
@[simp] theorem State.setCb_pins (s : State) (x : CaptureBuffer) : (s.setCb x).pins = s.pins := rfl
@[simp] theorem State.setCb_regA (s : State) (x : CaptureBuffer) : (s.setCb x).regA = s.regA := rfl
@[simp] theorem State.setCb_regB (s : State) (x : CaptureBuffer) : (s.setCb x).regB = s.regB := rfl
@[simp] theorem State.setCb_tl (s : State) (x : CaptureBuffer) : (s.setCb x).tl = s.tl := rfl
@[simp] theorem State.setCb_mt (s : State) (x : CaptureBuffer) : (s.setCb x).mt = s.mt := rfl
@[simp] theorem State.setCb_vm (s : State) (x : CaptureBuffer) : (s.setCb x).vm = s.vm := rfl
@[simp] theorem State.setCb_scu (s : State) (x : CaptureBuffer) : (s.setCb x).scu = s.scu := rfl
@[simp] theorem State.setCb_tu (s : State) (x : CaptureBuffer) : (s.setCb x).tu = s.tu := rfl
@[simp] theorem State.setCb_cb (s : State) (x : CaptureBuffer) : (s.setCb x).cb = x := rfl
@[simp] theorem State.setCb_rs (s : State) (x : CaptureBuffer) : (s.setCb x).rs = s.rs := rfl
@[simp] theorem State.setCb_linkC (s : State) (x : CaptureBuffer) : (s.setCb x).linkC = s.linkC := rfl
@[simp] theorem State.setCb_linkA (s : State) (x : CaptureBuffer) : (s.setCb x).linkA = s.linkA := rfl
@[simp] theorem State.setCb_linkB (s : State) (x : CaptureBuffer) : (s.setCb x).linkB = s.linkB := rfl
@[simp] theorem State.setCb_linkS (s : State) (x : CaptureBuffer) : (s.setCb x).linkS = s.linkS := rfl
@[simp] theorem State.setCb_up (s : State) (x : CaptureBuffer) : (s.setCb x).up = s.up := rfl
@[simp] theorem State.setCb_me (s : State) (x : CaptureBuffer) : (s.setCb x).me = s.me := rfl
@[simp] theorem State.setCb_time (s : State) (x : CaptureBuffer) : (s.setCb x).time = s.time := rfl
@[simp] theorem State.setCb_draws (s : State) (x : CaptureBuffer) : (s.setCb x).draws = s.draws := rfl
@[simp] theorem State.setCb_sent (s : State) (x : CaptureBuffer) : (s.setCb x).sent = s.sent := rfl
@[simp] theorem State.setCb_pending (s : State) (x : CaptureBuffer) : (s.setCb x).pending = s.pending := rfl
@[simp] theorem State.setCb_setCb (s : State) (x y : CaptureBuffer) : (s.setCb x).setCb y = s.setCb y := rfl
@[simp] theorem State.setCb_self (s : State) : s.setCb s.cb = s := rfl

@[simp] theorem State.setRs_supply (s : State) (x : RecordStore) : (s.setRs x).supply = s.supply := rfl
@[simp] theorem State.setRs_held (s : State) (x : RecordStore) : (s.setRs x).held = s.held := rfl
@[simp] theorem State.setRs_pins (s : State) (x : RecordStore) : (s.setRs x).pins = s.pins := rfl
@[simp] theorem State.setRs_regA (s : State) (x : RecordStore) : (s.setRs x).regA = s.regA := rfl
@[simp] theorem State.setRs_regB (s : State) (x : RecordStore) : (s.setRs x).regB = s.regB := rfl
@[simp] theorem State.setRs_tl (s : State) (x : RecordStore) : (s.setRs x).tl = s.tl := rfl
@[simp] theorem State.setRs_mt (s : State) (x : RecordStore) : (s.setRs x).mt = s.mt := rfl
@[simp] theorem State.setRs_vm (s : State) (x : RecordStore) : (s.setRs x).vm = s.vm := rfl
@[simp] theorem State.setRs_scu (s : State) (x : RecordStore) : (s.setRs x).scu = s.scu := rfl
@[simp] theorem State.setRs_tu (s : State) (x : RecordStore) : (s.setRs x).tu = s.tu := rfl
@[simp] theorem State.setRs_cb (s : State) (x : RecordStore) : (s.setRs x).cb = s.cb := rfl
@[simp] theorem State.setRs_rs (s : State) (x : RecordStore) : (s.setRs x).rs = x := rfl
@[simp] theorem State.setRs_linkC (s : State) (x : RecordStore) : (s.setRs x).linkC = s.linkC := rfl
@[simp] theorem State.setRs_linkA (s : State) (x : RecordStore) : (s.setRs x).linkA = s.linkA := rfl
@[simp] theorem State.setRs_linkB (s : State) (x : RecordStore) : (s.setRs x).linkB = s.linkB := rfl
@[simp] theorem State.setRs_linkS (s : State) (x : RecordStore) : (s.setRs x).linkS = s.linkS := rfl
@[simp] theorem State.setRs_up (s : State) (x : RecordStore) : (s.setRs x).up = s.up := rfl
@[simp] theorem State.setRs_me (s : State) (x : RecordStore) : (s.setRs x).me = s.me := rfl
@[simp] theorem State.setRs_time (s : State) (x : RecordStore) : (s.setRs x).time = s.time := rfl
@[simp] theorem State.setRs_draws (s : State) (x : RecordStore) : (s.setRs x).draws = s.draws := rfl
@[simp] theorem State.setRs_sent (s : State) (x : RecordStore) : (s.setRs x).sent = s.sent := rfl
@[simp] theorem State.setRs_pending (s : State) (x : RecordStore) : (s.setRs x).pending = s.pending := rfl
@[simp] theorem State.setRs_setRs (s : State) (x y : RecordStore) : (s.setRs x).setRs y = s.setRs y := rfl
@[simp] theorem State.setRs_self (s : State) : s.setRs s.rs = s := rfl

@[simp] theorem State.setLinkC_supply (s : State) (x : LinkUnit) : (s.setLinkC x).supply = s.supply := rfl
@[simp] theorem State.setLinkC_held (s : State) (x : LinkUnit) : (s.setLinkC x).held = s.held := rfl
@[simp] theorem State.setLinkC_pins (s : State) (x : LinkUnit) : (s.setLinkC x).pins = s.pins := rfl
@[simp] theorem State.setLinkC_regA (s : State) (x : LinkUnit) : (s.setLinkC x).regA = s.regA := rfl
@[simp] theorem State.setLinkC_regB (s : State) (x : LinkUnit) : (s.setLinkC x).regB = s.regB := rfl
@[simp] theorem State.setLinkC_tl (s : State) (x : LinkUnit) : (s.setLinkC x).tl = s.tl := rfl
@[simp] theorem State.setLinkC_mt (s : State) (x : LinkUnit) : (s.setLinkC x).mt = s.mt := rfl
@[simp] theorem State.setLinkC_vm (s : State) (x : LinkUnit) : (s.setLinkC x).vm = s.vm := rfl
@[simp] theorem State.setLinkC_scu (s : State) (x : LinkUnit) : (s.setLinkC x).scu = s.scu := rfl
@[simp] theorem State.setLinkC_tu (s : State) (x : LinkUnit) : (s.setLinkC x).tu = s.tu := rfl
@[simp] theorem State.setLinkC_cb (s : State) (x : LinkUnit) : (s.setLinkC x).cb = s.cb := rfl
@[simp] theorem State.setLinkC_rs (s : State) (x : LinkUnit) : (s.setLinkC x).rs = s.rs := rfl
@[simp] theorem State.setLinkC_linkC (s : State) (x : LinkUnit) : (s.setLinkC x).linkC = x := rfl
@[simp] theorem State.setLinkC_linkA (s : State) (x : LinkUnit) : (s.setLinkC x).linkA = s.linkA := rfl
@[simp] theorem State.setLinkC_linkB (s : State) (x : LinkUnit) : (s.setLinkC x).linkB = s.linkB := rfl
@[simp] theorem State.setLinkC_linkS (s : State) (x : LinkUnit) : (s.setLinkC x).linkS = s.linkS := rfl
@[simp] theorem State.setLinkC_up (s : State) (x : LinkUnit) : (s.setLinkC x).up = s.up := rfl
@[simp] theorem State.setLinkC_me (s : State) (x : LinkUnit) : (s.setLinkC x).me = s.me := rfl
@[simp] theorem State.setLinkC_time (s : State) (x : LinkUnit) : (s.setLinkC x).time = s.time := rfl
@[simp] theorem State.setLinkC_draws (s : State) (x : LinkUnit) : (s.setLinkC x).draws = s.draws := rfl
@[simp] theorem State.setLinkC_sent (s : State) (x : LinkUnit) : (s.setLinkC x).sent = s.sent := rfl
@[simp] theorem State.setLinkC_pending (s : State) (x : LinkUnit) : (s.setLinkC x).pending = s.pending := rfl
@[simp] theorem State.setLinkC_setLinkC (s : State) (x y : LinkUnit) : (s.setLinkC x).setLinkC y = s.setLinkC y := rfl
@[simp] theorem State.setLinkC_self (s : State) : s.setLinkC s.linkC = s := rfl

@[simp] theorem State.setLinkA_supply (s : State) (x : LinkUnit) : (s.setLinkA x).supply = s.supply := rfl
@[simp] theorem State.setLinkA_held (s : State) (x : LinkUnit) : (s.setLinkA x).held = s.held := rfl
@[simp] theorem State.setLinkA_pins (s : State) (x : LinkUnit) : (s.setLinkA x).pins = s.pins := rfl
@[simp] theorem State.setLinkA_regA (s : State) (x : LinkUnit) : (s.setLinkA x).regA = s.regA := rfl
@[simp] theorem State.setLinkA_regB (s : State) (x : LinkUnit) : (s.setLinkA x).regB = s.regB := rfl
@[simp] theorem State.setLinkA_tl (s : State) (x : LinkUnit) : (s.setLinkA x).tl = s.tl := rfl
@[simp] theorem State.setLinkA_mt (s : State) (x : LinkUnit) : (s.setLinkA x).mt = s.mt := rfl
@[simp] theorem State.setLinkA_vm (s : State) (x : LinkUnit) : (s.setLinkA x).vm = s.vm := rfl
@[simp] theorem State.setLinkA_scu (s : State) (x : LinkUnit) : (s.setLinkA x).scu = s.scu := rfl
@[simp] theorem State.setLinkA_tu (s : State) (x : LinkUnit) : (s.setLinkA x).tu = s.tu := rfl
@[simp] theorem State.setLinkA_cb (s : State) (x : LinkUnit) : (s.setLinkA x).cb = s.cb := rfl
@[simp] theorem State.setLinkA_rs (s : State) (x : LinkUnit) : (s.setLinkA x).rs = s.rs := rfl
@[simp] theorem State.setLinkA_linkC (s : State) (x : LinkUnit) : (s.setLinkA x).linkC = s.linkC := rfl
@[simp] theorem State.setLinkA_linkA (s : State) (x : LinkUnit) : (s.setLinkA x).linkA = x := rfl
@[simp] theorem State.setLinkA_linkB (s : State) (x : LinkUnit) : (s.setLinkA x).linkB = s.linkB := rfl
@[simp] theorem State.setLinkA_linkS (s : State) (x : LinkUnit) : (s.setLinkA x).linkS = s.linkS := rfl
@[simp] theorem State.setLinkA_up (s : State) (x : LinkUnit) : (s.setLinkA x).up = s.up := rfl
@[simp] theorem State.setLinkA_me (s : State) (x : LinkUnit) : (s.setLinkA x).me = s.me := rfl
@[simp] theorem State.setLinkA_time (s : State) (x : LinkUnit) : (s.setLinkA x).time = s.time := rfl
@[simp] theorem State.setLinkA_draws (s : State) (x : LinkUnit) : (s.setLinkA x).draws = s.draws := rfl
@[simp] theorem State.setLinkA_sent (s : State) (x : LinkUnit) : (s.setLinkA x).sent = s.sent := rfl
@[simp] theorem State.setLinkA_pending (s : State) (x : LinkUnit) : (s.setLinkA x).pending = s.pending := rfl
@[simp] theorem State.setLinkA_setLinkA (s : State) (x y : LinkUnit) : (s.setLinkA x).setLinkA y = s.setLinkA y := rfl
@[simp] theorem State.setLinkA_self (s : State) : s.setLinkA s.linkA = s := rfl

@[simp] theorem State.setLinkB_supply (s : State) (x : LinkUnit) : (s.setLinkB x).supply = s.supply := rfl
@[simp] theorem State.setLinkB_held (s : State) (x : LinkUnit) : (s.setLinkB x).held = s.held := rfl
@[simp] theorem State.setLinkB_pins (s : State) (x : LinkUnit) : (s.setLinkB x).pins = s.pins := rfl
@[simp] theorem State.setLinkB_regA (s : State) (x : LinkUnit) : (s.setLinkB x).regA = s.regA := rfl
@[simp] theorem State.setLinkB_regB (s : State) (x : LinkUnit) : (s.setLinkB x).regB = s.regB := rfl
@[simp] theorem State.setLinkB_tl (s : State) (x : LinkUnit) : (s.setLinkB x).tl = s.tl := rfl
@[simp] theorem State.setLinkB_mt (s : State) (x : LinkUnit) : (s.setLinkB x).mt = s.mt := rfl
@[simp] theorem State.setLinkB_vm (s : State) (x : LinkUnit) : (s.setLinkB x).vm = s.vm := rfl
@[simp] theorem State.setLinkB_scu (s : State) (x : LinkUnit) : (s.setLinkB x).scu = s.scu := rfl
@[simp] theorem State.setLinkB_tu (s : State) (x : LinkUnit) : (s.setLinkB x).tu = s.tu := rfl
@[simp] theorem State.setLinkB_cb (s : State) (x : LinkUnit) : (s.setLinkB x).cb = s.cb := rfl
@[simp] theorem State.setLinkB_rs (s : State) (x : LinkUnit) : (s.setLinkB x).rs = s.rs := rfl
@[simp] theorem State.setLinkB_linkC (s : State) (x : LinkUnit) : (s.setLinkB x).linkC = s.linkC := rfl
@[simp] theorem State.setLinkB_linkA (s : State) (x : LinkUnit) : (s.setLinkB x).linkA = s.linkA := rfl
@[simp] theorem State.setLinkB_linkB (s : State) (x : LinkUnit) : (s.setLinkB x).linkB = x := rfl
@[simp] theorem State.setLinkB_linkS (s : State) (x : LinkUnit) : (s.setLinkB x).linkS = s.linkS := rfl
@[simp] theorem State.setLinkB_up (s : State) (x : LinkUnit) : (s.setLinkB x).up = s.up := rfl
@[simp] theorem State.setLinkB_me (s : State) (x : LinkUnit) : (s.setLinkB x).me = s.me := rfl
@[simp] theorem State.setLinkB_time (s : State) (x : LinkUnit) : (s.setLinkB x).time = s.time := rfl
@[simp] theorem State.setLinkB_draws (s : State) (x : LinkUnit) : (s.setLinkB x).draws = s.draws := rfl
@[simp] theorem State.setLinkB_sent (s : State) (x : LinkUnit) : (s.setLinkB x).sent = s.sent := rfl
@[simp] theorem State.setLinkB_pending (s : State) (x : LinkUnit) : (s.setLinkB x).pending = s.pending := rfl
@[simp] theorem State.setLinkB_setLinkB (s : State) (x y : LinkUnit) : (s.setLinkB x).setLinkB y = s.setLinkB y := rfl
@[simp] theorem State.setLinkB_self (s : State) : s.setLinkB s.linkB = s := rfl

@[simp] theorem State.setLinkS_supply (s : State) (x : LinkUnit) : (s.setLinkS x).supply = s.supply := rfl
@[simp] theorem State.setLinkS_held (s : State) (x : LinkUnit) : (s.setLinkS x).held = s.held := rfl
@[simp] theorem State.setLinkS_pins (s : State) (x : LinkUnit) : (s.setLinkS x).pins = s.pins := rfl
@[simp] theorem State.setLinkS_regA (s : State) (x : LinkUnit) : (s.setLinkS x).regA = s.regA := rfl
@[simp] theorem State.setLinkS_regB (s : State) (x : LinkUnit) : (s.setLinkS x).regB = s.regB := rfl
@[simp] theorem State.setLinkS_tl (s : State) (x : LinkUnit) : (s.setLinkS x).tl = s.tl := rfl
@[simp] theorem State.setLinkS_mt (s : State) (x : LinkUnit) : (s.setLinkS x).mt = s.mt := rfl
@[simp] theorem State.setLinkS_vm (s : State) (x : LinkUnit) : (s.setLinkS x).vm = s.vm := rfl
@[simp] theorem State.setLinkS_scu (s : State) (x : LinkUnit) : (s.setLinkS x).scu = s.scu := rfl
@[simp] theorem State.setLinkS_tu (s : State) (x : LinkUnit) : (s.setLinkS x).tu = s.tu := rfl
@[simp] theorem State.setLinkS_cb (s : State) (x : LinkUnit) : (s.setLinkS x).cb = s.cb := rfl
@[simp] theorem State.setLinkS_rs (s : State) (x : LinkUnit) : (s.setLinkS x).rs = s.rs := rfl
@[simp] theorem State.setLinkS_linkC (s : State) (x : LinkUnit) : (s.setLinkS x).linkC = s.linkC := rfl
@[simp] theorem State.setLinkS_linkA (s : State) (x : LinkUnit) : (s.setLinkS x).linkA = s.linkA := rfl
@[simp] theorem State.setLinkS_linkB (s : State) (x : LinkUnit) : (s.setLinkS x).linkB = s.linkB := rfl
@[simp] theorem State.setLinkS_linkS (s : State) (x : LinkUnit) : (s.setLinkS x).linkS = x := rfl
@[simp] theorem State.setLinkS_up (s : State) (x : LinkUnit) : (s.setLinkS x).up = s.up := rfl
@[simp] theorem State.setLinkS_me (s : State) (x : LinkUnit) : (s.setLinkS x).me = s.me := rfl
@[simp] theorem State.setLinkS_time (s : State) (x : LinkUnit) : (s.setLinkS x).time = s.time := rfl
@[simp] theorem State.setLinkS_draws (s : State) (x : LinkUnit) : (s.setLinkS x).draws = s.draws := rfl
@[simp] theorem State.setLinkS_sent (s : State) (x : LinkUnit) : (s.setLinkS x).sent = s.sent := rfl
@[simp] theorem State.setLinkS_pending (s : State) (x : LinkUnit) : (s.setLinkS x).pending = s.pending := rfl
@[simp] theorem State.setLinkS_setLinkS (s : State) (x y : LinkUnit) : (s.setLinkS x).setLinkS y = s.setLinkS y := rfl
@[simp] theorem State.setLinkS_self (s : State) : s.setLinkS s.linkS = s := rfl

@[simp] theorem State.setUp_supply (s : State) (x : Upstream) : (s.setUp x).supply = s.supply := rfl
@[simp] theorem State.setUp_held (s : State) (x : Upstream) : (s.setUp x).held = s.held := rfl
@[simp] theorem State.setUp_pins (s : State) (x : Upstream) : (s.setUp x).pins = s.pins := rfl
@[simp] theorem State.setUp_regA (s : State) (x : Upstream) : (s.setUp x).regA = s.regA := rfl
@[simp] theorem State.setUp_regB (s : State) (x : Upstream) : (s.setUp x).regB = s.regB := rfl
@[simp] theorem State.setUp_tl (s : State) (x : Upstream) : (s.setUp x).tl = s.tl := rfl
@[simp] theorem State.setUp_mt (s : State) (x : Upstream) : (s.setUp x).mt = s.mt := rfl
@[simp] theorem State.setUp_vm (s : State) (x : Upstream) : (s.setUp x).vm = s.vm := rfl
@[simp] theorem State.setUp_scu (s : State) (x : Upstream) : (s.setUp x).scu = s.scu := rfl
@[simp] theorem State.setUp_tu (s : State) (x : Upstream) : (s.setUp x).tu = s.tu := rfl
@[simp] theorem State.setUp_cb (s : State) (x : Upstream) : (s.setUp x).cb = s.cb := rfl
@[simp] theorem State.setUp_rs (s : State) (x : Upstream) : (s.setUp x).rs = s.rs := rfl
@[simp] theorem State.setUp_linkC (s : State) (x : Upstream) : (s.setUp x).linkC = s.linkC := rfl
@[simp] theorem State.setUp_linkA (s : State) (x : Upstream) : (s.setUp x).linkA = s.linkA := rfl
@[simp] theorem State.setUp_linkB (s : State) (x : Upstream) : (s.setUp x).linkB = s.linkB := rfl
@[simp] theorem State.setUp_linkS (s : State) (x : Upstream) : (s.setUp x).linkS = s.linkS := rfl
@[simp] theorem State.setUp_up (s : State) (x : Upstream) : (s.setUp x).up = x := rfl
@[simp] theorem State.setUp_me (s : State) (x : Upstream) : (s.setUp x).me = s.me := rfl
@[simp] theorem State.setUp_time (s : State) (x : Upstream) : (s.setUp x).time = s.time := rfl
@[simp] theorem State.setUp_draws (s : State) (x : Upstream) : (s.setUp x).draws = s.draws := rfl
@[simp] theorem State.setUp_sent (s : State) (x : Upstream) : (s.setUp x).sent = s.sent := rfl
@[simp] theorem State.setUp_pending (s : State) (x : Upstream) : (s.setUp x).pending = s.pending := rfl
@[simp] theorem State.setUp_setUp (s : State) (x y : Upstream) : (s.setUp x).setUp y = s.setUp y := rfl
@[simp] theorem State.setUp_self (s : State) : s.setUp s.up = s := rfl

@[simp] theorem State.setMe_supply (s : State) (x : Management) : (s.setMe x).supply = s.supply := rfl
@[simp] theorem State.setMe_held (s : State) (x : Management) : (s.setMe x).held = s.held := rfl
@[simp] theorem State.setMe_pins (s : State) (x : Management) : (s.setMe x).pins = s.pins := rfl
@[simp] theorem State.setMe_regA (s : State) (x : Management) : (s.setMe x).regA = s.regA := rfl
@[simp] theorem State.setMe_regB (s : State) (x : Management) : (s.setMe x).regB = s.regB := rfl
@[simp] theorem State.setMe_tl (s : State) (x : Management) : (s.setMe x).tl = s.tl := rfl
@[simp] theorem State.setMe_mt (s : State) (x : Management) : (s.setMe x).mt = s.mt := rfl
@[simp] theorem State.setMe_vm (s : State) (x : Management) : (s.setMe x).vm = s.vm := rfl
@[simp] theorem State.setMe_scu (s : State) (x : Management) : (s.setMe x).scu = s.scu := rfl
@[simp] theorem State.setMe_tu (s : State) (x : Management) : (s.setMe x).tu = s.tu := rfl
@[simp] theorem State.setMe_cb (s : State) (x : Management) : (s.setMe x).cb = s.cb := rfl
@[simp] theorem State.setMe_rs (s : State) (x : Management) : (s.setMe x).rs = s.rs := rfl
@[simp] theorem State.setMe_linkC (s : State) (x : Management) : (s.setMe x).linkC = s.linkC := rfl
@[simp] theorem State.setMe_linkA (s : State) (x : Management) : (s.setMe x).linkA = s.linkA := rfl
@[simp] theorem State.setMe_linkB (s : State) (x : Management) : (s.setMe x).linkB = s.linkB := rfl
@[simp] theorem State.setMe_linkS (s : State) (x : Management) : (s.setMe x).linkS = s.linkS := rfl
@[simp] theorem State.setMe_up (s : State) (x : Management) : (s.setMe x).up = s.up := rfl
@[simp] theorem State.setMe_me (s : State) (x : Management) : (s.setMe x).me = x := rfl
@[simp] theorem State.setMe_time (s : State) (x : Management) : (s.setMe x).time = s.time := rfl
@[simp] theorem State.setMe_draws (s : State) (x : Management) : (s.setMe x).draws = s.draws := rfl
@[simp] theorem State.setMe_sent (s : State) (x : Management) : (s.setMe x).sent = s.sent := rfl
@[simp] theorem State.setMe_pending (s : State) (x : Management) : (s.setMe x).pending = s.pending := rfl
@[simp] theorem State.setMe_setMe (s : State) (x y : Management) : (s.setMe x).setMe y = s.setMe y := rfl
@[simp] theorem State.setMe_self (s : State) : s.setMe s.me = s := rfl

@[simp] theorem State.setTime_supply (s : State) (x : TimeBases) : (s.setTime x).supply = s.supply := rfl
@[simp] theorem State.setTime_held (s : State) (x : TimeBases) : (s.setTime x).held = s.held := rfl
@[simp] theorem State.setTime_pins (s : State) (x : TimeBases) : (s.setTime x).pins = s.pins := rfl
@[simp] theorem State.setTime_regA (s : State) (x : TimeBases) : (s.setTime x).regA = s.regA := rfl
@[simp] theorem State.setTime_regB (s : State) (x : TimeBases) : (s.setTime x).regB = s.regB := rfl
@[simp] theorem State.setTime_tl (s : State) (x : TimeBases) : (s.setTime x).tl = s.tl := rfl
@[simp] theorem State.setTime_mt (s : State) (x : TimeBases) : (s.setTime x).mt = s.mt := rfl
@[simp] theorem State.setTime_vm (s : State) (x : TimeBases) : (s.setTime x).vm = s.vm := rfl
@[simp] theorem State.setTime_scu (s : State) (x : TimeBases) : (s.setTime x).scu = s.scu := rfl
@[simp] theorem State.setTime_tu (s : State) (x : TimeBases) : (s.setTime x).tu = s.tu := rfl
@[simp] theorem State.setTime_cb (s : State) (x : TimeBases) : (s.setTime x).cb = s.cb := rfl
@[simp] theorem State.setTime_rs (s : State) (x : TimeBases) : (s.setTime x).rs = s.rs := rfl
@[simp] theorem State.setTime_linkC (s : State) (x : TimeBases) : (s.setTime x).linkC = s.linkC := rfl
@[simp] theorem State.setTime_linkA (s : State) (x : TimeBases) : (s.setTime x).linkA = s.linkA := rfl
@[simp] theorem State.setTime_linkB (s : State) (x : TimeBases) : (s.setTime x).linkB = s.linkB := rfl
@[simp] theorem State.setTime_linkS (s : State) (x : TimeBases) : (s.setTime x).linkS = s.linkS := rfl
@[simp] theorem State.setTime_up (s : State) (x : TimeBases) : (s.setTime x).up = s.up := rfl
@[simp] theorem State.setTime_me (s : State) (x : TimeBases) : (s.setTime x).me = s.me := rfl
@[simp] theorem State.setTime_time (s : State) (x : TimeBases) : (s.setTime x).time = x := rfl
@[simp] theorem State.setTime_draws (s : State) (x : TimeBases) : (s.setTime x).draws = s.draws := rfl
@[simp] theorem State.setTime_sent (s : State) (x : TimeBases) : (s.setTime x).sent = s.sent := rfl
@[simp] theorem State.setTime_pending (s : State) (x : TimeBases) : (s.setTime x).pending = s.pending := rfl
@[simp] theorem State.setTime_setTime (s : State) (x y : TimeBases) : (s.setTime x).setTime y = s.setTime y := rfl
@[simp] theorem State.setTime_self (s : State) : s.setTime s.time = s := rfl

@[simp] theorem State.setDraws_supply (s : State) (x : Nat) : (s.setDraws x).supply = s.supply := rfl
@[simp] theorem State.setDraws_held (s : State) (x : Nat) : (s.setDraws x).held = s.held := rfl
@[simp] theorem State.setDraws_pins (s : State) (x : Nat) : (s.setDraws x).pins = s.pins := rfl
@[simp] theorem State.setDraws_regA (s : State) (x : Nat) : (s.setDraws x).regA = s.regA := rfl
@[simp] theorem State.setDraws_regB (s : State) (x : Nat) : (s.setDraws x).regB = s.regB := rfl
@[simp] theorem State.setDraws_tl (s : State) (x : Nat) : (s.setDraws x).tl = s.tl := rfl
@[simp] theorem State.setDraws_mt (s : State) (x : Nat) : (s.setDraws x).mt = s.mt := rfl
@[simp] theorem State.setDraws_vm (s : State) (x : Nat) : (s.setDraws x).vm = s.vm := rfl
@[simp] theorem State.setDraws_scu (s : State) (x : Nat) : (s.setDraws x).scu = s.scu := rfl
@[simp] theorem State.setDraws_tu (s : State) (x : Nat) : (s.setDraws x).tu = s.tu := rfl
@[simp] theorem State.setDraws_cb (s : State) (x : Nat) : (s.setDraws x).cb = s.cb := rfl
@[simp] theorem State.setDraws_rs (s : State) (x : Nat) : (s.setDraws x).rs = s.rs := rfl
@[simp] theorem State.setDraws_linkC (s : State) (x : Nat) : (s.setDraws x).linkC = s.linkC := rfl
@[simp] theorem State.setDraws_linkA (s : State) (x : Nat) : (s.setDraws x).linkA = s.linkA := rfl
@[simp] theorem State.setDraws_linkB (s : State) (x : Nat) : (s.setDraws x).linkB = s.linkB := rfl
@[simp] theorem State.setDraws_linkS (s : State) (x : Nat) : (s.setDraws x).linkS = s.linkS := rfl
@[simp] theorem State.setDraws_up (s : State) (x : Nat) : (s.setDraws x).up = s.up := rfl
@[simp] theorem State.setDraws_me (s : State) (x : Nat) : (s.setDraws x).me = s.me := rfl
@[simp] theorem State.setDraws_time (s : State) (x : Nat) : (s.setDraws x).time = s.time := rfl
@[simp] theorem State.setDraws_draws (s : State) (x : Nat) : (s.setDraws x).draws = x := rfl
@[simp] theorem State.setDraws_sent (s : State) (x : Nat) : (s.setDraws x).sent = s.sent := rfl
@[simp] theorem State.setDraws_pending (s : State) (x : Nat) : (s.setDraws x).pending = s.pending := rfl
@[simp] theorem State.setDraws_setDraws (s : State) (x y : Nat) : (s.setDraws x).setDraws y = s.setDraws y := rfl
@[simp] theorem State.setDraws_self (s : State) : s.setDraws s.draws = s := rfl

@[simp] theorem State.setSent_supply (s : State) (x : List Sent) : (s.setSent x).supply = s.supply := rfl
@[simp] theorem State.setSent_held (s : State) (x : List Sent) : (s.setSent x).held = s.held := rfl
@[simp] theorem State.setSent_pins (s : State) (x : List Sent) : (s.setSent x).pins = s.pins := rfl
@[simp] theorem State.setSent_regA (s : State) (x : List Sent) : (s.setSent x).regA = s.regA := rfl
@[simp] theorem State.setSent_regB (s : State) (x : List Sent) : (s.setSent x).regB = s.regB := rfl
@[simp] theorem State.setSent_tl (s : State) (x : List Sent) : (s.setSent x).tl = s.tl := rfl
@[simp] theorem State.setSent_mt (s : State) (x : List Sent) : (s.setSent x).mt = s.mt := rfl
@[simp] theorem State.setSent_vm (s : State) (x : List Sent) : (s.setSent x).vm = s.vm := rfl
@[simp] theorem State.setSent_scu (s : State) (x : List Sent) : (s.setSent x).scu = s.scu := rfl
@[simp] theorem State.setSent_tu (s : State) (x : List Sent) : (s.setSent x).tu = s.tu := rfl
@[simp] theorem State.setSent_cb (s : State) (x : List Sent) : (s.setSent x).cb = s.cb := rfl
@[simp] theorem State.setSent_rs (s : State) (x : List Sent) : (s.setSent x).rs = s.rs := rfl
@[simp] theorem State.setSent_linkC (s : State) (x : List Sent) : (s.setSent x).linkC = s.linkC := rfl
@[simp] theorem State.setSent_linkA (s : State) (x : List Sent) : (s.setSent x).linkA = s.linkA := rfl
@[simp] theorem State.setSent_linkB (s : State) (x : List Sent) : (s.setSent x).linkB = s.linkB := rfl
@[simp] theorem State.setSent_linkS (s : State) (x : List Sent) : (s.setSent x).linkS = s.linkS := rfl
@[simp] theorem State.setSent_up (s : State) (x : List Sent) : (s.setSent x).up = s.up := rfl
@[simp] theorem State.setSent_me (s : State) (x : List Sent) : (s.setSent x).me = s.me := rfl
@[simp] theorem State.setSent_time (s : State) (x : List Sent) : (s.setSent x).time = s.time := rfl
@[simp] theorem State.setSent_draws (s : State) (x : List Sent) : (s.setSent x).draws = s.draws := rfl
@[simp] theorem State.setSent_sent (s : State) (x : List Sent) : (s.setSent x).sent = x := rfl
@[simp] theorem State.setSent_pending (s : State) (x : List Sent) : (s.setSent x).pending = s.pending := rfl
@[simp] theorem State.setSent_setSent (s : State) (x y : List Sent) : (s.setSent x).setSent y = s.setSent y := rfl
@[simp] theorem State.setSent_self (s : State) : s.setSent s.sent = s := rfl

@[simp] theorem State.setPending_supply (s : State) (x : List Instr) : (s.setPending x).supply = s.supply := rfl
@[simp] theorem State.setPending_held (s : State) (x : List Instr) : (s.setPending x).held = s.held := rfl
@[simp] theorem State.setPending_pins (s : State) (x : List Instr) : (s.setPending x).pins = s.pins := rfl
@[simp] theorem State.setPending_regA (s : State) (x : List Instr) : (s.setPending x).regA = s.regA := rfl
@[simp] theorem State.setPending_regB (s : State) (x : List Instr) : (s.setPending x).regB = s.regB := rfl
@[simp] theorem State.setPending_tl (s : State) (x : List Instr) : (s.setPending x).tl = s.tl := rfl
@[simp] theorem State.setPending_mt (s : State) (x : List Instr) : (s.setPending x).mt = s.mt := rfl
@[simp] theorem State.setPending_vm (s : State) (x : List Instr) : (s.setPending x).vm = s.vm := rfl
@[simp] theorem State.setPending_scu (s : State) (x : List Instr) : (s.setPending x).scu = s.scu := rfl
@[simp] theorem State.setPending_tu (s : State) (x : List Instr) : (s.setPending x).tu = s.tu := rfl
@[simp] theorem State.setPending_cb (s : State) (x : List Instr) : (s.setPending x).cb = s.cb := rfl
@[simp] theorem State.setPending_rs (s : State) (x : List Instr) : (s.setPending x).rs = s.rs := rfl
@[simp] theorem State.setPending_linkC (s : State) (x : List Instr) : (s.setPending x).linkC = s.linkC := rfl
@[simp] theorem State.setPending_linkA (s : State) (x : List Instr) : (s.setPending x).linkA = s.linkA := rfl
@[simp] theorem State.setPending_linkB (s : State) (x : List Instr) : (s.setPending x).linkB = s.linkB := rfl
@[simp] theorem State.setPending_linkS (s : State) (x : List Instr) : (s.setPending x).linkS = s.linkS := rfl
@[simp] theorem State.setPending_up (s : State) (x : List Instr) : (s.setPending x).up = s.up := rfl
@[simp] theorem State.setPending_me (s : State) (x : List Instr) : (s.setPending x).me = s.me := rfl
@[simp] theorem State.setPending_time (s : State) (x : List Instr) : (s.setPending x).time = s.time := rfl
@[simp] theorem State.setPending_draws (s : State) (x : List Instr) : (s.setPending x).draws = s.draws := rfl
@[simp] theorem State.setPending_sent (s : State) (x : List Instr) : (s.setPending x).sent = s.sent := rfl
@[simp] theorem State.setPending_pending (s : State) (x : List Instr) : (s.setPending x).pending = x := rfl
@[simp] theorem State.setPending_setPending (s : State) (x y : List Instr) : (s.setPending x).setPending y = s.setPending y := rfl
@[simp] theorem State.setPending_self (s : State) : s.setPending s.pending = s := rfl

end Sys2Proof.Machine
end

