-- ==== Sys2Proof/Laws/Causes.lean ====
section
/-! SUPPORT. What a raise, a clear, a judgement of E, a trigger and a log entry may touch: each keeps `CauseFrame`. And membership of
the cause sets after an insertion or an erasure. -/

namespace Sys2Proof.Machine

/-! ## Cause sets -/

theorem CauseSet.has_insert (x : CauseSet) (c d : Cause) : (x.insert c).has d = (x.has d || decide (d = c)) := by
  have hd := d.isLt
  simp only [CauseSet.has, CauseSet.insert, BitVec.getLsbD_or, BitVec.getLsbD_shiftLeft]
  congr 1
  rcases Nat.lt_trichotomy d.val c.val with h | h | h
  · have : d ≠ c := fun e => by subst e; omega
    simp [h, this]
  · have : d = c := Fin.ext h
    subst this; simp [hd]
  · have h1 : d ≠ c := fun e => by subst e; omega
    have h2 : d.val - c.val ≠ 0 := by omega
    simp [h1, hd, Nat.not_lt.mpr (Nat.le_of_lt h), h2]

theorem CauseSet.has_erase (x : CauseSet) (c d : Cause) : (x.erase c).has d = (x.has d && decide (d ≠ c)) := by
  have hd := d.isLt
  simp only [CauseSet.has, CauseSet.erase, BitVec.getLsbD_and, BitVec.getLsbD_not, BitVec.getLsbD_shiftLeft]
  rcases Nat.lt_trichotomy d.val c.val with h | h | h
  · have : d ≠ c := fun e => by subst e; omega
    simp [h, this, hd]
  · have : d = c := Fin.ext h
    subst this; simp [hd]
  · have h1 : d ≠ c := fun e => by subst e; omega
    have h2 : d.val - c.val ≠ 0 := by omega
    simp [h1, hd, Nat.not_lt.mpr (Nat.le_of_lt h), h2]

theorem CauseSet.has_and (x y : CauseSet) (d : Cause) : CauseSet.has (x &&& y) d = (x.has d && y.has d) := by
  simp [CauseSet.has]

theorem CauseSet.has_zero (d : Cause) : CauseSet.has 0 d = false := by
  simp [CauseSet.has]

/-! ## What may change -/

theorem CauseFrame.refl (s : State) : CauseFrame s s := by
  constructor <;> rfl

theorem CauseFrame.trans {s t u : State} (h : CauseFrame s t) (k : CauseFrame t u) : CauseFrame s u := by
  constructor
  · rw [k.supply, h.supply]
  · rw [k.held, h.held]
  · rw [k.pins, h.pins]
  · rw [k.regA, h.regA]
  · rw [k.regB, h.regB]
  · rw [k.tl, h.tl]
  · rw [k.mt, h.mt]
  · rw [k.vm, h.vm]
  · rw [k.scu, h.scu]
  · rw [k.tu, h.tu]
  · rw [k.cb, h.cb]
  · rw [k.rs, h.rs]
  · rw [k.linkC, h.linkC]
  · rw [k.linkA, h.linkA]
  · rw [k.linkB, h.linkB]
  · rw [k.linkS, h.linkS]
  · rw [k.up, h.up]
  · rw [k.me, h.me]
  · rw [k.time, h.time]
  · rw [k.draws, h.draws]
  · rw [k.sent, h.sent]
  · rw [k.pending, h.pending]

theorem State.notify_frame (s : State) (k : NoticeKind) (a b : Word) (p : Priority) : CauseFrame s (s.notify k a b p) := by
  unfold State.notify
  split
  · cases p <;> constructor <;> rfl
  · exact .refl s

theorem State.recomputeE_frame (s : State) : CauseFrame s s.recomputeE := by
  constructor <;> rfl

theorem State.moveTo_frame (s : State) (d : DriveState) : CauseFrame s (s.moveTo d) :=
  (s.notify_frame _ _ _ _).trans (by constructor <;> rfl)

theorem State.clearIntegrators_frame (s : State) : CauseFrame s s.clearIntegrators := by
  constructor <;> rfl

theorem State.clearRuns_frame (s : State) : CauseFrame s s.clearRuns := by
  constructor <;> rfl

theorem State.notifyCause_frame (s : State) (k : NoticeKind) (c : Cause) : CauseFrame s (s.notifyCause k c) :=
  s.notify_frame _ _ _ _

theorem State.dropCause_frame (s : State) (c : Cause) : CauseFrame s (s.dropCause c) := by
  unfold State.dropCause
  split
  · refine CauseFrame.trans (t := s.setTu { s.tu with active := s.tu.active.erase c }) (by constructor <;> rfl) ?_
    simp only
    split
    · exact State.recomputeE_frame _
    · exact (State.notifyCause_frame _ _ _).trans (State.recomputeE_frame _)
  · exact .refl s

theorem State.enterTripped_frame (s : State) : CauseFrame s s.enterTripped := by
  unfold State.enterTripped
  have h : CauseFrame s ((s.moveTo .tripped).setTu { (s.moveTo .tripped).tu with tout := true }).clearIntegrators :=
    (s.moveTo_frame _).trans (CauseFrame.trans (by constructor <;> rfl) (State.clearIntegrators_frame _))
  simp only
  split
  · exact h.trans ((State.clearRuns_frame _).trans
      (((State.dropCause_frame _ _).trans (State.dropCause_frame _ _)).trans (State.dropCause_frame _ _)))
  · exact h

theorem State.judge_frame (s : State) : CauseFrame s s.judge := by
  unfold State.judge
  split <;> first | exact State.enterTripped_frame _ | exact State.moveTo_frame _ _ | exact .refl _

theorem State.reconsider_frame (s : State) : CauseFrame s s.reconsider :=
  s.recomputeE_frame.trans (State.judge_frame _)

theorem State.clearCause_frame (s : State) (c : Cause) : CauseFrame s (s.clearCause c) := by
  unfold State.clearCause
  split
  · exact (s.dropCause_frame c).trans (State.judge_frame _)
  · exact .refl s

theorem State.enterStopped_frame (s : State) : CauseFrame s s.enterStopped := by
  unfold State.enterStopped
  simp only
  have h : CauseFrame s (s.moveTo .stopped).clearIntegrators :=
    (s.moveTo_frame _).trans (State.clearIntegrators_frame _)
  have h2 : CauseFrame s (if (s.tu.drive == .tripped) = true then
      ((s.moveTo .stopped).clearIntegrators).setTu { (s.moveTo .stopped).clearIntegrators.tu with tout := false }
      else (s.moveTo .stopped).clearIntegrators) := by
    split
    · exact h.trans (by constructor <;> rfl)
    · exact h
  split
  · exact h2.trans ((State.clearRuns_frame _).trans
      (((State.clearCause_frame _ _).trans (State.clearCause_frame _ _)).trans (State.clearCause_frame _ _)))
  · exact h2

theorem State.freeze_frame (s : State) (short : Bool) : CauseFrame s (s.freeze short) := by
  unfold State.freeze
  refine CauseFrame.trans (t := s.setCb { s.cb with state := .frozen, cadence := none, short := short }) ?_
    (State.notify_frame _ _ _ _ _)
  constructor <;> rfl

theorem State.trigger_frame (s : State) (x : CaptureEntry) : CauseFrame s (s.trigger x).1 := by
  unfold State.trigger
  split
  · simp only
    split
    · exact CauseFrame.trans (by constructor <;> rfl) (State.freeze_frame _ _)
    · constructor <;> rfl
  · split
    · constructor <;> rfl
    · exact .refl s
  · exact .refl s
  · exact .refl s

/-- A record store that may differ in the array, the store state and the write slot alone. -/
def RecordStore.SameBut (rs r : RecordStore) : Prop :=
  r = { rs with array := r.array, state := r.state, writeSlot := r.writeSlot }

theorem RecordStore.SameBut.of (rs : RecordStore) (a : Slots ArraySlot) (st : StoreState) (w : Fin 64) :
    rs.SameBut { rs with array := a, state := st, writeSlot := w } := by
  unfold RecordStore.SameBut; rfl

theorem RecordStore.judgeSlot_same (n : Nat) (rs : RecordStore) : rs.SameBut (rs.judgeSlot n) := by
  induction n generalizing rs with
  | zero => rfl
  | succ n ih =>
    rw [RecordStore.judgeSlot]
    by_cases h1 : beginsSector rs.writeSlot = true
    · rw [if_pos h1]; exact .of rs _ _ _
    · rw [if_neg h1]
      by_cases h2 : rs.blank rs.writeSlot.val = true
      · rw [if_pos h2]; exact .of rs _ _ _
      · rw [if_neg h2]
        have h := ih { rs with writeSlot := rs.writeSlot + 1 }
        unfold RecordStore.SameBut at h ⊢
        exact h

theorem RecordStore.writeIfIdle_same (rs : RecordStore) : rs.SameBut rs.writeIfIdle := by
  unfold RecordStore.writeIfIdle
  split
  · exact rs.judgeSlot_same 17
  · rfl

theorem State.setRs_close_frame (s : State) (rs : RecordStore) (summary : Option Summary)
    (h : CauseFrame s (s.setRs rs)) : CauseFrame s (s.setRs (rs.close summary)) := by
  refine h.trans (t := s.setRs rs) ?_
  unfold RecordStore.close
  split
  · exact .refl _
  · rename_i g _
    have h := RecordStore.writeIfIdle_same
      { rs with gathering := none, queue := enqueueRecord rs.queue { g.record with summary := summary } }
    simp only
    unfold RecordStore.SameBut at h
    rw [h]
    constructor <;> rfl

theorem State.logRaise_frame (s : State) (c : Cause) (o : Option TriggerOutcome) : CauseFrame s (s.logRaise c o) := by
  unfold State.logRaise
  simp only
  split
  · constructor <;> rfl
  · exact State.setRs_close_frame _ _ _ (by constructor <;> rfl)
  · constructor <;> rfl
  · constructor <;> rfl
  · constructor <;> rfl

theorem State.consequences_frame (s : State) (c : Cause) : CauseFrame s (s.consequences c) := by
  unfold State.consequences
  split
  · exact s.reconsider_frame
  · have h := (s.notifyCause_frame .causeRaised c).trans (State.reconsider_frame _)
    simp only
    generalize (s.notifyCause .causeRaised c).reconsider = u at h ⊢
    cases hc : (u.actionEntry c).capture <;> cases hl : (u.actionEntry c).log <;>
      simp only [if_true, if_false, Bool.false_eq_true]
    · exact h
    · exact h.trans (State.logRaise_frame _ _ _)
    · exact h.trans (State.trigger_frame _ _)
    · exact h.trans ((State.trigger_frame _ _).trans (State.logRaise_frame _ _ _))

/-- A raise touches no more than `CauseFrame` names. -/
theorem State.raise_frame (s : State) (c : Cause) : CauseFrame s (s.raise c) := by
  unfold State.raise
  split
  · exact CauseFrame.trans (by constructor <;> rfl) (State.consequences_frame _ _)
  · split
    · exact .refl s
    · exact CauseFrame.trans (by constructor <;> rfl) (State.consequences_frame _ _)

theorem State.follow_frame (s : State) (c : Cause) (a b : Bool) : CauseFrame s (s.follow c a b) := by
  unfold State.follow
  split
  · exact s.raise_frame c
  · split
    · exact s.clearCause_frame c
    · exact .refl s

theorem State.storeFault_frame (s : State) : CauseFrame s s.storeFault :=
  CauseFrame.trans (t := s.setRs { s.rs with state := .fault }) (by constructor <;> rfl) (State.raise_frame _ _)

theorem State.captureEnded_frame (s : State) (summary : Option Summary) :
    CauseFrame s (s.setRs (s.rs.captureEnded summary)) := by
  unfold RecordStore.captureEnded
  split
  · split
    · exact State.setRs_close_frame _ _ _ (.refl s)
    · exact .refl s
  · exact .refl s

theorem State.freezeAndAnnounce_frame (s : State) (short : Bool) : CauseFrame s (s.freezeAndAnnounce short) :=
  (s.freeze_frame short).trans (State.captureEnded_frame _ _)

theorem State.raiseMarkerLost_frame (s : State) : CauseFrame s s.raiseMarkerLost := by
  unfold State.raiseMarkerLost
  split
  · exact s.raise_frame _
  · exact .refl s

theorem State.raiseLinkLost_frame (s : State) (l : LinkId) : CauseFrame s (s.raiseLinkLost l) := by
  unfold State.raiseLinkLost
  split
  · exact s.raise_frame _
  · exact .refl s

theorem State.clearLinkLost_frame (s : State) (l : LinkId) : CauseFrame s (s.clearLinkLost l) := by
  unfold State.clearLinkLost
  split
  · exact s.clearCause_frame _
  · exact .refl s

end Sys2Proof.Machine
end

