-- ==== Sys2Proof/Laws/Numbers.lean ====
section
/-! SUPPORT. What the numeric operations of chapter 00 answer: bounds of clamp, saturation and rounded division, and the root. -/

namespace Sys2Proof.Machine

theorem clamp_natAbs_le (x : Int) (a : Nat) : (clamp x a).natAbs ≤ a := by
  unfold clamp; omega

theorem clamp_of_natAbs_le {x : Int} {a : Nat} (h : x.natAbs ≤ a) : clamp x a = x := by
  unfold clamp; omega

theorem clamp_natAbs_le_self (x : Int) (a : Nat) : (clamp x a).natAbs ≤ x.natAbs := by
  unfold clamp; omega

theorem sat_natAbs_le (x : Int) : (sat x).natAbs ≤ 32767 := clamp_natAbs_le x 32767

theorem signed_natAbs_le (w : Word) : (signed w).natAbs ≤ 32767 := by
  have h1 := w.toInt_lt
  have h2 := w.le_toInt
  unfold signed
  split <;> simp at h1 h2 <;> omega

theorem rounded_mono {x y : Int} (h : x ≤ y) {d : Nat} (hd : 0 < d) : rounded x d ≤ rounded y d := by
  unfold rounded
  exact Int.ediv_le_ediv (by omega) (by omega)

/-- A rounded division by an even divisor is within half a step of the exact quotient. -/
theorem rounded_near (x : Int) {d : Nat} (hd : 0 < d) :
    (rounded x d) * d ≤ x + (d / 2 : Nat) ∧ x + (d / 2 : Nat) < (rounded x d + 1) * d := by
  unfold rounded
  constructor
  · exact Int.ediv_mul_le _ (by omega)
  · exact Int.lt_ediv_add_one_mul_self _ (by omega)

theorem isqrtBits_sq_le (n k r : Nat) (h : r * r ≤ n) : isqrtBits n k r * isqrtBits n k r ≤ n := by
  induction k generalizing r with
  | zero => simpa [isqrtBits] using h
  | succ k ih =>
    unfold isqrtBits
    split
    · exact ih _ ‹_›
    · exact ih _ h

theorem isqrtBits_lt_succ_sq (n k r : Nat) (h : n < (r + 2 ^ k) * (r + 2 ^ k)) :
    n < (isqrtBits n k r + 1) * (isqrtBits n k r + 1) := by
  induction k generalizing r with
  | zero => simpa [isqrtBits] using h
  | succ k ih =>
    unfold isqrtBits
    split
    · apply ih
      have : r + 2 ^ k + 2 ^ k = r + 2 ^ (k + 1) := by rw [Nat.pow_succ]; omega
      rwa [this]
    · exact ih _ (by omega)

/-- The root's square does not exceed n. -/
theorem isqrt_sq_le (n : Nat) : isqrt n * isqrt n ≤ n := isqrtBits_sq_le n _ 0 (by simp)

/-- The next integer's square exceeds n. -/
theorem lt_succ_isqrt_sq (n : Nat) : n < (isqrt n + 1) * (isqrt n + 1) := by
  apply isqrtBits_lt_succ_sq
  rw [Nat.zero_add, ← Nat.pow_add]
  calc n < 2 ^ (n.log2 + 1) := Nat.lt_log2_self
    _ ≤ _ := Nat.pow_le_pow_right (by omega) (by omega)

theorem isqrt_le {n a : Nat} (h : n ≤ a * a) : isqrt n ≤ a := by
  by_contra hc
  have h1 := isqrt_sq_le n
  have h2 : (a + 1) * (a + 1) ≤ isqrt n * isqrt n := Nat.mul_le_mul (by omega) (by omega)
  nlinarith

end Sys2Proof.Machine
end

