-- ==== Sys2Proof/Laws/PerInstr.lean ====
section
/-! SUPPORT. For every command: the frame it travels in fits the header's length field. -/

namespace Sys2Proof.Laws.FrameFits

/-- The payload of a well-formed command's frame has at most 255 words (R151). -/
def Statement (i : Instr) : Prop :=
  i.wellFormed = true → ∀ l k ws, commandFrame i = some (l, k, ws) → ws.length ≤ 255

theorem fits {x : Option (LinkId × FrameKind × List Word)} {p : LinkId × FrameKind × List Word} (hx : x = some p)
    (hp : p.2.2.length ≤ 255) : ∀ l k ws, x = some (l, k, ws) → ws.length ≤ 255 := by
  intro l k ws h
  rw [hx] at h
  cases h
  exact hp

theorem fitsNone {x : Option (LinkId × FrameKind × List Word)} (hx : x = none) :
    ∀ l k ws, x = some (l, k, ws) → ws.length ≤ 255 := by
  intro l k ws h
  rw [hx] at h
  cases h

theorem sample (m : Motor) (f : SampleFrame) : Statement (.sample m f) :=
  match m with
  | .A => fun _ => fits rfl (by simp [samplePayload])
  | .B => fun _ => fits rfl (by simp [samplePayload])

theorem demand (f : DemandFrame) : Statement (.demand f) :=
  fun _ => fits rfl (by simp [demandPayload])

theorem sweep (f : SweepFrame) : Statement (.sweep f) :=
  fun hw => fits rfl (by
    simp only [Instr.wellFormed, SweepFrame.lengthOk, Bool.and_eq_true, beq_iff_eq] at hw
    have := f.group.isLt
    simp only [sweepPayload, List.length_cons, List.length_append, List.length_nil, hw.2]
    omega)

theorem frameDiscarded (l : LinkId) : Statement (.frameDiscarded l) :=
  fun _ => fitsNone rfl

theorem readStatus (tag : Byte) : Statement (.readStatus tag) :=
  fun _ => fits rfl (Nat.le_of_ble_eq_true rfl)

theorem readEntry (tag : Byte) (table bank index : Word) : Statement (.readEntry tag table bank index) :=
  fun _ => fits rfl (Nat.le_of_ble_eq_true rfl)

theorem writeEntry (tag : Byte) (table index : Word) (values : List Word)
    : Statement (.writeEntry tag table index values) :=
  fun hw => fits rfl (by
    simp only [Instr.wellFormed, writeEntryWords, beq_iff_eq] at hw
    simp [hw])

theorem copyBank (tag : Byte) (table : Word) : Statement (.copyBank tag table) :=
  fun _ => fits rfl (Nat.le_of_ble_eq_true rfl)

theorem switchBank (tag : Byte) (table : Word) : Statement (.switchBank tag table) :=
  fun _ => fits rfl (Nat.le_of_ble_eq_true rfl)

theorem acknowledge (tag : Byte) : Statement (.acknowledge tag) :=
  fun _ => fits rfl (Nat.le_of_ble_eq_true rfl)

theorem requestTrip (tag : Byte) : Statement (.requestTrip tag) :=
  fun _ => fits rfl (Nat.le_of_ble_eq_true rfl)

theorem captureNow (tag : Byte) : Statement (.captureNow tag) :=
  fun _ => fits rfl (Nat.le_of_ble_eq_true rfl)

theorem captureRelease (tag : Byte) : Statement (.captureRelease tag) :=
  fun _ => fits rfl (Nat.le_of_ble_eq_true rfl)

theorem captureDisarm (tag : Byte) : Statement (.captureDisarm tag) :=
  fun _ => fits rfl (Nat.le_of_ble_eq_true rfl)

theorem readCapture (tag : Byte) (n : Word) : Statement (.readCapture tag n) :=
  fun _ => fits rfl (Nat.le_of_ble_eq_true rfl)

theorem readRecord (tag : Byte) (form hi lo : Word) : Statement (.readRecord tag form hi lo) :=
  fun _ => fits rfl (Nat.le_of_ble_eq_true rfl)

theorem eraseLog (tag : Byte) : Statement (.eraseLog tag) :=
  fun _ => fits rfl (Nat.le_of_ble_eq_true rfl)

theorem calibrate (tag : Byte) (motor : Word) : Statement (.calibrate tag motor) :=
  fun _ => fits rfl (Nat.le_of_ble_eq_true rfl)

theorem wireCheck (tag : Byte) (channel : Word) : Statement (.wireCheck tag channel) :=
  fun _ => fits rfl (Nat.le_of_ble_eq_true rfl)

theorem linkEnable (tag : Byte) (link : Word) : Statement (.linkEnable tag link) :=
  fun _ => fits rfl (Nat.le_of_ble_eq_true rfl)

theorem linkDisable (tag : Byte) (link : Word) : Statement (.linkDisable tag link) :=
  fun _ => fits rfl (Nat.le_of_ble_eq_true rfl)

theorem relockOn (tag : Byte) (link : Word) : Statement (.relockOn tag link) :=
  fun _ => fits rfl (Nat.le_of_ble_eq_true rfl)

theorem relockOff (tag : Byte) (link : Word) : Statement (.relockOff tag link) :=
  fun _ => fits rfl (Nat.le_of_ble_eq_true rfl)

theorem relockNow (tag : Byte) (link : Word) : Statement (.relockNow tag link) :=
  fun _ => fits rfl (Nat.le_of_ble_eq_true rfl)

theorem clearErrorCount (tag : Byte) (link : Word) : Statement (.clearErrorCount tag link) :=
  fun _ => fits rfl (Nat.le_of_ble_eq_true rfl)

theorem setTime (tag : Byte) (hi lo : Word) : Statement (.setTime tag hi lo) :=
  fun _ => fits rfl (Nat.le_of_ble_eq_true rfl)

theorem setNoticeMask (tag : Byte) (mask : Word) : Statement (.setNoticeMask tag mask) :=
  fun _ => fits rfl (Nat.le_of_ble_eq_true rfl)

theorem reset (tag : Byte) : Statement (.reset tag) :=
  fun _ => fits rfl (Nat.le_of_ble_eq_true rfl)

theorem clearRestartCause (tag : Byte) : Statement (.clearRestartCause tag) :=
  fun _ => fits rfl (Nat.le_of_ble_eq_true rfl)

theorem unknownRequest (tag code : Byte) (params : List Word) : Statement (.unknownRequest tag code params) :=
  fun hw => fits rfl (by
    simp [Instr.wellFormed, unnamedLinkOperation] at hw
    simp
    omega)

theorem activeEdge (e : Edge) : Statement (.activeEdge e) :=
  fun _ => fitsNone rfl

theorem markerExpiry : Statement .markerExpiry :=
  fun _ => fitsNone rfl

theorem silenceTimeReached : Statement .silenceTimeReached :=
  fun _ => fitsNone rfl

theorem tripInputChange (x : Fin 4) (level : Level) : Statement (.tripInputChange x level) :=
  fun _ => fitsNone rfl

theorem filteredTransition (x : Fin 4) : Statement (.filteredTransition x) :=
  fun _ => fitsNone rfl

theorem powerOnReset : Statement .powerOnReset :=
  fun _ => fitsNone rfl

theorem lineReset : Statement .lineReset :=
  fun _ => fitsNone rfl

theorem resetRelease (k : ResetKind) : Statement (.resetRelease k) :=
  fun _ => fitsNone rfl

theorem linkTimeout (l : LinkId) : Statement (.linkTimeout l) :=
  fun _ => fitsNone rfl

theorem cadenceTimeout : Statement .cadenceTimeout :=
  fun _ => fitsNone rfl

theorem gatherExpiry : Statement .gatherExpiry :=
  fun _ => fitsNone rfl

theorem programComplete (good : Bool) : Statement (.programComplete good) :=
  fun _ => fitsNone rfl

theorem eraseComplete (notBlank : Word) : Statement (.eraseComplete notBlank) :=
  fun _ => fitsNone rfl

theorem clearSectorComplete (notBlank : Word) : Statement (.clearSectorComplete notBlank) :=
  fun _ => fitsNone rfl

theorem scanEnd : Statement .scanEnd :=
  fun _ => fitsNone rfl

theorem reportSent : Statement .reportSent :=
  fun _ => fitsNone rfl

theorem managementFrameSent : Statement .managementFrameSent :=
  fun _ => fitsNone rfl

theorem markerTimerStep : Statement .markerTimerStep :=
  fun _ => fitsNone rfl

theorem secondsCounterStep : Statement .secondsCounterStep :=
  fun _ => fitsNone rfl

theorem lossOfSupply : Statement .lossOfSupply :=
  fun _ => fitsNone rfl

theorem controlFrameNotLocked : Statement .controlFrameNotLocked :=
  fun _ => fitsNone rfl

end Sys2Proof.Laws.FrameFits
end

