-- ==== Sys2Proof/Laws/Requests.lean ====
section
/-! SUPPORT. The parts of State that a motor or a link names, read back after an update; a good frame by the state of its link; and a
Request by the state of the C-link and the reply queue. -/

namespace Sys2Proof.Machine

/-! ## Motors and links -/

@[simp] theorem State.reg_setReg_self (s : State) (m : Motor) (r : Regulator) : (s.setReg m r).reg m = r := by
  cases m <;> rfl

theorem State.reg_setReg_other (s : State) {m n : Motor} (h : n ≠ m) (r : Regulator) : (s.setReg m r).reg n = s.reg n := by
  cases m <;> cases n <;> first | rfl | exact absurd rfl h

@[simp] theorem State.link_setLink_self (s : State) (l : LinkId) (u : LinkUnit) : (s.setLink l u).link l = u := by
  cases l <;> rfl

theorem State.link_setLink_other (s : State) {l k : LinkId} (h : k ≠ l) (u : LinkUnit) :
    (s.setLink l u).link k = s.link k := by
  cases l <;> cases k <;> first | rfl | exact absurd rfl h

/-! ## Good frames (R154, R155) -/

/-- A good frame on a LOCKED link restarts its timer and changes nothing else. -/
theorem State.goodFrame_locked {s : State} {l : LinkId} (h : (s.link l).state = .locked) :
    s.goodFrame l = s.setLink l { s.link l with timer := some 0 } := by
  unfold State.goodFrame
  simp only
  split <;> simp_all

/-- A good frame on a LOST or DOWN link counts for nothing. -/
theorem State.goodFrame_lost {s : State} {l : LinkId} (h : (s.link l).state = .lost ∨ (s.link l).state = .down) :
    s.goodFrame l = s := by
  unfold State.goodFrame
  simp only
  split <;> simp_all

theorem State.goodFrame_heardC {s : State} (h : s.linkC.state = .locked) : s.goodFrame .C = s.heardC :=
  State.goodFrame_locked (l := .C) h

/-! ## Requests (R159, R174) -/

/-- A Request that is acted on runs its action on the state in which the C-link has been heard. -/
theorem State.takeRequest_ready {s : State} (h : s.ready) (act : State → State) : s.takeRequest act = act s.heardC := by
  obtain ⟨h1, h2, h3⟩ := h
  unfold State.takeRequest
  rw [if_neg (by simp [h1]), if_pos h2]
  simp only [State.goodFrame_heardC h2]
  exact if_pos h3

/-- A Request that finds four Replies waiting is discarded and marks the next Report (R174). -/
theorem State.takeRequest_full {s : State} (h1 : s.inReset = false) (h2 : s.linkC.state = .locked)
    (h3 : 4 ≤ s.me.replies.length) (act : State → State) :
    s.takeRequest act = s.heardC.setMe { s.me with dropped := true } := by
  unfold State.takeRequest
  rw [if_neg (by simp [h1]), if_pos h2]
  simp only [State.goodFrame_heardC h2]
  exact if_neg (by simpa [State.heardC] using h3)

/-- A Request on a C-link that is not LOCKED counts toward lock and is not acted on (R159). -/
theorem State.takeRequest_searching {s : State} (h1 : s.inReset = false) (h2 : s.linkC.state ≠ .locked)
    (act : State → State) : s.takeRequest act = s.goodFrame .C := by
  unfold State.takeRequest
  rw [if_neg (by simp [h1]), if_neg h2]

theorem State.takeRequest_inReset {s : State} (h : s.inReset = true) (act : State → State) : s.takeRequest act = s := by
  unfold State.takeRequest
  rw [if_pos h]

/-- A Request answered by one Reply. -/
theorem State.request_ready {s : State} (h : s.ready) (tag : Byte) (code : Nat) (body : State → Answer) :
    s.request tag code body =
      (body s.heardC).state.queueReply tag code (body s.heardC).status (body s.heardC).result :=
  State.takeRequest_ready h _

/-- One Reply joins the queue, its result words filled up with 0. -/
theorem State.queueReply_eq (s : State) (tag : Byte) (code : Nat) (status : Status) (result : List Word) :
    s.queueReply tag code status result =
      s.withReply tag (BitVec.ofNat 8 code) status (fillWords (resultWords code) result) := rfl

end Sys2Proof.Machine
end

