-- ==== Sys2Proof/Laws/Slots.lean ====
section
/-! SUPPORT. The numbered stores of slots: what reading gives after a write or a clear, and that both keep the one form. -/

namespace Sys2Proof.Machine

variable {α : Type}

theorem slotsOk_cons {k : Nat} {v : α} {rest : Slots α} :
    slotsOk ((k, v) :: rest) = true ↔ (∀ p ∈ rest, k < p.1) ∧ slotsOk rest = true := by
  induction rest generalizing k v with
  | nil => simp [slotsOk]
  | cons p rest ih =>
    obtain ⟨j, u⟩ := p
    simp only [slotsOk, Bool.and_eq_true, decide_eq_true_eq, List.mem_cons, forall_eq_or_imp, ih]
    constructor
    · rintro ⟨h, h1, h2⟩
      exact ⟨⟨h, fun q hq => Nat.lt_trans h (h1 q hq)⟩, h1, h2⟩
    · rintro ⟨⟨h, _⟩, h1, h2⟩
      exact ⟨h, h1, h2⟩

theorem slotAt_of_lt {n : Nat} {x : Slots α} (h : ∀ p ∈ x, n < p.1) : slotAt n x = none := by
  induction x with
  | nil => rfl
  | cons p rest ih =>
    obtain ⟨k, v⟩ := p
    have hk : n < k := h (k, v) (by simp)
    simp [slotAt, Nat.ne_of_gt hk, ih fun q hq => h q (by simp [hq])]

/-- A slot just written reads what was written. -/
theorem slotAt_slotPut_self (n : Nat) (v : α) (x : Slots α) : slotAt n (slotPut n v x) = some v := by
  induction x with
  | nil => simp [slotPut, slotAt]
  | cons p rest ih =>
    obtain ⟨k, u⟩ := p
    simp only [slotPut]
    split
    · simp [slotAt]
    · split
      · simp [slotAt]
      · rename_i h1 h2
        simp [slotAt, show k ≠ n from fun h => h2 h.symm, ih]

/-- A write leaves every other slot alone. -/
theorem slotAt_slotPut_other {n m : Nat} (h : m ≠ n) (v : α) (x : Slots α) : slotAt m (slotPut n v x) = slotAt m x := by
  induction x with
  | nil => simp [slotPut, slotAt, h.symm]
  | cons p rest ih =>
    obtain ⟨k, u⟩ := p
    simp only [slotPut]
    split
    · simp [slotAt, h.symm]
    · split
      · rename_i h1 h2
        subst h2
        simp [slotAt, h.symm]
      · simp [slotAt, ih]

theorem mem_slotPut {n : Nat} {v : α} {x : Slots α} {p : Nat × α} (h : p ∈ slotPut n v x) : p = (n, v) ∨ p ∈ x := by
  induction x with
  | nil => simpa [slotPut] using h
  | cons q rest ih =>
    obtain ⟨k, u⟩ := q
    simp only [slotPut] at h
    split at h
    · simpa using h
    · split at h
      · simp at h ⊢; tauto
      · simp only [List.mem_cons] at h ⊢
        rcases h with h | h
        · exact .inr (.inl h)
        · rcases ih h with h | h
          · exact .inl h
          · exact .inr (.inr h)

/-- A write keeps the one form. -/
theorem slotsOk_slotPut (n : Nat) (v : α) {x : Slots α} (h : slotsOk x = true) : slotsOk (slotPut n v x) = true := by
  induction x with
  | nil => simp [slotPut, slotsOk]
  | cons p rest ih =>
    obtain ⟨k, u⟩ := p
    have ⟨h1, h2⟩ := slotsOk_cons.mp h
    simp only [slotPut]
    split
    · refine slotsOk_cons.mpr ⟨?_, h⟩
      intro q hq
      simp only [List.mem_cons] at hq
      rcases hq with hq | hq
      · subst hq; assumption
      · exact Nat.lt_trans ‹_› (h1 q hq)
    · split
      · rename_i h3 h4
        subst h4
        exact slotsOk_cons.mpr ⟨h1, h2⟩
      · refine slotsOk_cons.mpr ⟨?_, ih h2⟩
        intro q hq
        rcases mem_slotPut hq with hq | hq
        · subst hq; simp; omega
        · exact h1 q hq

theorem mem_slotClear {n : Nat} {x : Slots α} {p : Nat × α} (h : p ∈ slotClear n x) : p ∈ x := by
  induction x with
  | nil => simp [slotClear] at h
  | cons q rest ih =>
    obtain ⟨k, u⟩ := q
    simp only [slotClear] at h
    split at h
    · simp [h]
    · simp only [List.mem_cons] at h ⊢
      rcases h with h | h
      · exact .inl h
      · exact .inr (ih h)

/-- A slot cleared in a store of the one form lists nothing. -/
theorem slotAt_slotClear_self (n : Nat) {x : Slots α} (h : slotsOk x = true) : slotAt n (slotClear n x) = none := by
  induction x with
  | nil => rfl
  | cons p rest ih =>
    obtain ⟨k, u⟩ := p
    have ⟨h1, h2⟩ := slotsOk_cons.mp h
    simp only [slotClear]
    split
    · rename_i hk; subst hk; exact slotAt_of_lt h1
    · simp [slotAt, *]

/-- A clear leaves every other slot alone. -/
theorem slotAt_slotClear_other {n m : Nat} (h : m ≠ n) (x : Slots α) : slotAt m (slotClear n x) = slotAt m x := by
  induction x with
  | nil => rfl
  | cons p rest ih =>
    obtain ⟨k, u⟩ := p
    simp only [slotClear]
    split
    · rename_i hk; subst hk; simp [slotAt, h.symm]
    · simp [slotAt, ih]

/-- A clear keeps the one form. -/
theorem slotsOk_slotClear (n : Nat) {x : Slots α} (h : slotsOk x = true) : slotsOk (slotClear n x) = true := by
  induction x with
  | nil => rfl
  | cons p rest ih =>
    obtain ⟨k, u⟩ := p
    have ⟨h1, h2⟩ := slotsOk_cons.mp h
    simp only [slotClear]
    split
    · exact h2
    · exact slotsOk_cons.mpr ⟨fun q hq => h1 q (mem_slotClear hq), ih h2⟩

theorem Slots.Ok.put {m n : Nat} {x : Slots α} (h : x.Ok m) (hn : n < m) (v : α) : Slots.Ok m (slotPut n v x) :=
  ⟨slotsOk_slotPut n v h.1, fun p hp => by
    rcases mem_slotPut hp with hp | hp
    · subst hp; exact hn
    · exact h.2 p hp⟩

theorem Slots.Ok.clear {m : Nat} {x : Slots α} (h : x.Ok m) (n : Nat) : Slots.Ok m (slotClear n x) :=
  ⟨slotsOk_slotClear n h.1, fun p hp => h.2 p (mem_slotClear hp)⟩

end Sys2Proof.Machine
end

