-- ==== Sys2Proof/Laws/Timers.lean ====
section
/-! SUPPORT. What a step of each timer can do: the link timers (R155), the cadence timer (R124), the trip inputs' filters (R111), the
record store's time base (R136) and the seconds counter's (R176); and how much of the part each of them can touch. -/

namespace Sys2Proof.Machine

/-! ## Due and not due -/

theorem timerDue_iff {limit : Nat} {timer : Option Nat} : timerDue limit timer = true ↔ ∃ n, timer = some n ∧ limit ≤ n + 1 := by
  cases timer <;> simp [timerDue]

@[simp] theorem timerNext_none : timerNext none = none := rfl

@[simp] theorem timerNext_some (n : Nat) : timerNext (some n) = some (n + 1) := rfl

@[simp] theorem timerNext_isSome (timer : Option Nat) : (timerNext timer).isSome = timer.isSome := by cases timer <;> rfl

/-! ## The parts of a link that a cause event leaves -/

theorem CauseFrame.link {s t : State} (h : CauseFrame s t) (l : LinkId) : t.link l = s.link l := by
  cases l
  · exact h.linkC
  · exact h.linkA
  · exact h.linkB
  · exact h.linkS

@[simp] theorem State.notifyLink_link (s : State) (l : LinkId) (new : LinkState) (k : LinkId) :
    (s.notifyLink l new).link k = s.link k := (State.notify_frame s _ _ _ _).link k

@[simp] theorem State.abortCalibration_link (s : State) (m : Motor) (k : LinkId) : (s.abortCalibration m).link k = s.link k := by
  unfold State.abortCalibration
  split
  · rfl
  · exact ((State.notify_frame _ _ _ _ _).link k).trans (by cases m <;> cases k <;> rfl)

@[simp] theorem State.setVm_link (s : State) (x : VibrationMonitor) (k : LinkId) : (s.setVm x).link k = s.link k := by
  cases k <;> rfl

@[simp] theorem State.setScu_link (s : State) (x : SensorCheck) (k : LinkId) : (s.setScu x).link k = s.link k := by
  cases k <;> rfl

@[simp] theorem State.restartWindow_link (s : State) (k : LinkId) : s.restartWindow.link k = s.link k := by
  simp [State.restartWindow, State.mapInService, State.mapChannels]

@[simp] theorem State.abortWireCheck_link (s : State) (k : LinkId) : s.abortWireCheck.link k = s.link k := by
  unfold State.abortWireCheck
  split
  · rfl
  · exact ((State.notify_frame _ _ _ _ _).link k).trans (s.setScu_link _ k)

@[simp] theorem State.sensorLinkLeft_link (s : State) (k : LinkId) : s.sensorLinkLeft.link k = s.link k := by
  simp [State.sensorLinkLeft]

@[simp] theorem State.linkLeftLocked_link (s : State) (l k : LinkId) : (s.linkLeftLocked l).link k = s.link k := by
  cases l
  · cases k <;> rfl
  · exact s.abortCalibration_link _ _
  · exact s.abortCalibration_link _ _
  · exact s.sensorLinkLeft_link _

/-! ## One step of each timer -/

theorem State.stepLink_early {s : State} {l : LinkId} (h : s.linkDue l = false) :
    s.stepLink l = s.setLink l { s.link l with timer := timerNext (s.link l).timer } := by
  simp [State.stepLink, h]

theorem State.stepLink_due {s : State} {l : LinkId} (h : s.linkDue l = true) : s.stepLink l = s.expireLink l := by
  simp [State.stepLink, h]

/-- What an expiry leaves of the link itself (R154, R155). -/
theorem State.expireLink_link (s : State) (l : LinkId) :
    (s.expireLink l).link l =
      match (s.link l).state with
      | .locking => { s.link l with state := .searching, good := 0, timer := none }
      | .locked => { s.link l with state := .lost, good := 0, timer := some 0 }
      | .lost =>
        if s.relockActs l then { s.link l with state := .searching, good := 0, timer := none }
        else { s.link l with good := 0, timer := some 0 }
      | .down | .searching => s.link l := by
  cases h : (s.link l).state <;> simp only [State.expireLink, h]
  · simp
  · simp [(State.raiseLinkLost_frame _ l).link l]
  · split <;> simp_all

/-- An expiry of one link's timer leaves the other links. -/
theorem State.expireLink_other (s : State) {l k : LinkId} (h : k ≠ l) : (s.expireLink l).link k = s.link k := by
  cases e : (s.link l).state <;> simp only [State.expireLink, e]
  · simp [State.link_setLink_other _ h]
  · simp [(State.raiseLinkLost_frame _ l).link k, State.link_setLink_other _ h]
  · split <;> simp [State.link_setLink_other _ h]

/-- A step of one link's timer leaves the other links. -/
theorem State.stepLink_other (s : State) {l k : LinkId} (h : k ≠ l) : (s.stepLink l).link k = s.link k := by
  cases d : s.linkDue l
  · rw [State.stepLink_early d, State.link_setLink_other _ h]
  · rw [State.stepLink_due d, State.expireLink_other s h]

/-- A step of the cadence timer touches no more than a cause event does: at 20 ms it freezes the capture. -/
theorem State.stepCadence_frame (s : State) : CauseFrame s s.stepCadence := by
  unfold State.stepCadence
  split
  · exact s.freezeAndAnnounce_frame true
  · split
    · constructor <;> rfl
    · exact .refl s

theorem State.stepCadence_of_not_triggered {s : State} (h : s.cb.state ≠ .triggered) : s.stepCadence = s := by
  have d : s.cadenceDue = false := by simp [State.cadenceDue, h]
  simp [State.stepCadence, d, h]

/-- A filtered transition touches the filter and what a cause event does. -/
theorem State.filterTransition_frame (s : State) (x : Fin 4) :
    CauseFrame (s.setTin x { s.tu.tin[x] with filtered := s.tu.tin[x].raw }) (s.filterTransition x) := by
  unfold State.filterTransition
  simp only
  split
  · split
    · exact State.raise_frame _ _
    · exact .refl _
  · exact State.follow_frame _ _ _ _

/-- One step of an input's filter: the stable time, and at min_duration the transition with its cause (R111). -/
theorem State.stepTin_frame (s : State) (x : Fin 4) :
    CauseFrame
      (s.setTin x
        { raw := s.tu.tin[x].raw
          filtered := if s.tinDue x then s.tu.tin[x].raw else s.tu.tin[x].filtered
          stable := min (s.tu.tin[x].stable + 1) 1000 })
      (s.stepTin x) := by
  unfold State.stepTin
  simp only
  split
  · have h := State.filterTransition_frame (s.setTin x { s.tu.tin[x] with stable := min (s.tu.tin[x].stable + 1) 1000 }) x
    simpa [State.setTin, State.setTu] using h
  · exact .refl _

/-- One step of the record store's time base: the clock always, and either the gather timer or the close of the record. -/
theorem RecordStore.step_cases (rs : RecordStore) :
    (rs.gatherDue = false ∧
      rs.step = { rs with
        clock := rs.clock + 1, gathering := rs.gathering.map fun g => { g with timer := timerNext g.timer } }) ∨
    (∃ g n, rs.gathering = some g ∧ g.timer = some n ∧ 50 ≤ n + 1 ∧
      rs.step = RecordStore.close { rs with clock := rs.clock + 1 } none) := by
  cases h : rs.gatherDue
  · exact .inl ⟨rfl, by simp [RecordStore.step, h]⟩
  · refine .inr ?_
    cases g : rs.gathering with
    | none => simp [RecordStore.gatherDue, g] at h
    | some x =>
      simp only [RecordStore.gatherDue, g] at h
      obtain ⟨n, hn, hle⟩ := timerDue_iff.mp h
      refine ⟨x, n, rfl, hn, hle, ?_⟩
      have d : rs.gatherDue = true := by simp [RecordStore.gatherDue, g, h]
      simp [RecordStore.step, d, g]

/-- One step of the seconds time base: short of its second only the base moves, and the second's end steps the counter (R176). -/
theorem State.stepSeconds_cases (s : State) :
    (s.time.secondTenths < 9999 ∧
      s.stepSeconds = { s with time := { s.time with secondTenths := s.time.secondTenths + 1 } }) ∨
    (9999 ≤ s.time.secondTenths ∧
      s.stepSeconds = { s with
        me := { s.me with seconds := min (s.me.seconds + 1) 4294967295 }, time := { s.time with secondTenths := 0 } }) := by
  cases h : s.secondDue
  · exact .inl ⟨by simpa [State.secondDue] using h, by simp [State.stepSeconds, h, State.setTime]⟩
  · exact .inr ⟨by simpa [State.secondDue] using h, by simp [State.stepSeconds, h, State.setMe, State.setTime]⟩

end Sys2Proof.Machine
end

