-- ==== Sys2Proof/Laws/TripUnit.lean ====
section
/-! SUPPORT. What a notice, a raise, a clear and the entries to TRIPPED and STOPPED do to the trip unit's sets and to the notice
queues, said once. -/

namespace Sys2Proof.Machine

/-! ## Notices -/

theorem flagTail_length (q : List Notice) : (flagTail q).length = q.length := by
  induction q with
  | nil => rfl
  | cons n rest ih =>
    cases rest with
    | nil => rfl
    | cons m rest => simpa [flagTail] using ih

/-- A queue of at most 8 entries stays one. -/
theorem pushNotice_length_le {q : List Notice} (h : q.length ≤ 8) (n : Notice) : (pushNotice q n).length ≤ 8 := by
  unfold pushNotice
  split
  · simp; omega
  · rw [flagTail_length]; exact h

theorem State.notify_tu (s : State) (k : NoticeKind) (a b : Word) (p : Priority) : (s.notify k a b p).tu = s.tu := by
  unfold State.notify
  split
  · cases p <;> rfl
  · rfl

theorem State.notify_cb (s : State) (k : NoticeKind) (a b : Word) (p : Priority) : (s.notify k a b p).cb = s.cb := by
  unfold State.notify
  split
  · cases p <;> rfl
  · rfl

theorem State.notify_rs (s : State) (k : NoticeKind) (a b : Word) (p : Priority) : (s.notify k a b p).rs = s.rs := by
  unfold State.notify
  split
  · cases p <;> rfl
  · rfl

theorem State.notify_tl (s : State) (k : NoticeKind) (a b : Word) (p : Priority) : (s.notify k a b p).tl = s.tl := by
  unfold State.notify
  split
  · cases p <;> rfl
  · rfl

/-- A notice leaves its queue with at most 8 entries. -/
theorem State.notify_high_le {s : State} (h : s.me.high.length ≤ 8) (k : NoticeKind) (a b : Word) (p : Priority) :
    (s.notify k a b p).me.high.length ≤ 8 := by
  unfold State.notify
  split
  · cases p
    · exact pushNotice_length_le h _
    · exact h
  · exact h

theorem State.notify_low_le {s : State} (h : s.me.low.length ≤ 8) (k : NoticeKind) (a b : Word) (p : Priority) :
    (s.notify k a b p).me.low.length ≤ 8 := by
  unfold State.notify
  split
  · cases p
    · exact h
    · exact pushNotice_length_le h _
  · exact h

/-! ## The sets -/

/-- The causes that entry to TRIPPED or STOPPED clears (R104, R105). -/
def Cause.runOnly (c : Cause) : Bool := c == .imbalance || c == .stall || c == .markerLost

theorem State.dropCause_latched (s : State) (c : Cause) : (s.dropCause c).tu.latched = s.tu.latched := by
  unfold State.dropCause
  split
  · simp only
    split
    · rfl
    · simp [State.recomputeE, State.notifyCause, State.notify_tu]
  · rfl

theorem State.dropCause_drive (s : State) (c : Cause) : (s.dropCause c).tu.drive = s.tu.drive := by
  unfold State.dropCause
  split
  · simp only
    split
    · rfl
    · simp [State.recomputeE, State.notifyCause, State.notify_tu]
  · rfl

theorem State.dropCause_has (s : State) (c d : Cause) :
    (s.dropCause c).tu.active.has d = (s.tu.active.has d && decide (d ≠ c)) := by
  unfold State.dropCause
  split
  · simp only
    split
    · exact CauseSet.has_erase _ _ _
    · simp only [State.recomputeE, State.notifyCause, State.setTu_tu, State.notify_tu]
      exact CauseSet.has_erase _ _ _
  · rename_i h
    by_cases e : d = c
    · subst e; simp [h]
    · simp [e]

theorem State.enterTripped_latched (s : State) : s.enterTripped.tu.latched = s.tu.latched := by
  unfold State.enterTripped
  simp only
  split
  · simp only [State.dropCause_latched]
    simp [State.clearRuns, State.clearIntegrators, State.moveTo, State.notify_tu]
  · simp [State.clearIntegrators, State.moveTo, State.notify_tu]

theorem State.enterTripped_drive (s : State) : s.enterTripped.tu.drive = .tripped := by
  unfold State.enterTripped
  simp only
  split
  · simp only [State.dropCause_drive]
    simp [State.clearRuns, State.clearIntegrators, State.moveTo]
  · simp [State.clearIntegrators, State.moveTo]

/-- Entry to TRIPPED takes no cause but the run-only ones out of the active set. -/
theorem State.enterTripped_has (s : State) {d : Cause} (hd : d.runOnly = false) :
    s.enterTripped.tu.active.has d = s.tu.active.has d := by
  have h1 : d ≠ Cause.imbalance := by intro e; subst e; simp [Cause.runOnly] at hd
  have h2 : d ≠ Cause.stall := by intro e; subst e; simp [Cause.runOnly] at hd
  have h3 : d ≠ Cause.markerLost := by intro e; subst e; simp [Cause.runOnly] at hd
  unfold State.enterTripped
  simp only
  split
  · simp only [State.dropCause_has]
    simp [State.clearRuns, State.clearIntegrators, State.moveTo, State.notify_tu, h1, h2, h3]
  · simp [State.clearIntegrators, State.moveTo, State.notify_tu]

theorem State.judge_latched (s : State) : s.judge.tu.latched = s.tu.latched := by
  unfold State.judge
  split <;> simp [State.enterTripped_latched, State.moveTo, State.notify_tu]

theorem State.judge_has (s : State) {d : Cause} (hd : d.runOnly = false) : s.judge.tu.active.has d = s.tu.active.has d := by
  unfold State.judge
  split <;> simp [State.enterTripped_has _ hd, State.moveTo, State.notify_tu]

theorem State.reconsider_latched (s : State) : s.reconsider.tu.latched = s.tu.latched := by
  simp [State.reconsider, State.judge_latched, State.recomputeE]

theorem State.reconsider_has (s : State) {d : Cause} (hd : d.runOnly = false) :
    s.reconsider.tu.active.has d = s.tu.active.has d := by
  simp [State.reconsider, State.judge_has _ hd, State.recomputeE]

/-- A clear of R97 takes its cause out of the active set and no other but the run-only ones. -/
theorem State.clearCause_has (s : State) (c : Cause) {d : Cause} (hd : d.runOnly = false) :
    (s.clearCause c).tu.active.has d = (s.tu.active.has d && decide (d ≠ c)) := by
  unfold State.clearCause
  split
  · rw [State.judge_has _ hd, State.dropCause_has]
  · rename_i h
    by_cases e : d = c
    · subst e; simp [h]
    · simp [e]

theorem State.clearCause_latched (s : State) (c : Cause) : (s.clearCause c).tu.latched = s.tu.latched := by
  unfold State.clearCause
  split
  · rw [State.judge_latched, State.dropCause_latched]
  · rfl

theorem State.freeze_tu (s : State) (short : Bool) : (s.freeze short).tu = s.tu := by
  simp [State.freeze, State.notify_tu]

theorem State.trigger_tu (s : State) (x : CaptureEntry) : (s.trigger x).1.tu = s.tu := by
  unfold State.trigger
  split
  · simp only
    split
    · simp [State.freeze_tu]
    · rfl
  · split <;> rfl
  · rfl
  · rfl

theorem State.logRaise_tu (s : State) (c : Cause) (o : Option TriggerOutcome) : (s.logRaise c o).tu = s.tu := by
  unfold State.logRaise
  simp only
  split <;> rfl

/-- The notice, the trigger and the log entry of a raise leave the trip unit as the judgement of E left it. -/
theorem State.consequences_tu (s : State) (c : Cause) :
    (s.consequences c).tu =
      (if s.acting c = .ignore then s.reconsider else (s.notifyCause .causeRaised c).reconsider).tu := by
  unfold State.consequences
  split
  · rfl
  · simp only
    generalize (s.notifyCause .causeRaised c).reconsider = u
    cases hc : (u.actionEntry c).capture <;> cases hl : (u.actionEntry c).log <;>
      simp only [if_true, if_false, Bool.false_eq_true, State.logRaise_tu, State.trigger_tu]

theorem State.consequences_latched (s : State) (c : Cause) : (s.consequences c).tu.latched = s.tu.latched := by
  rw [State.consequences_tu]
  split
  · exact State.reconsider_latched _
  · simp [State.reconsider_latched, State.notifyCause, State.notify_tu]

theorem State.consequences_has (s : State) (c : Cause) {d : Cause} (hd : d.runOnly = false) :
    (s.consequences c).tu.active.has d = s.tu.active.has d := by
  rw [State.consequences_tu]
  split
  · exact State.reconsider_has _ hd
  · simp [State.reconsider_has _ hd, State.notifyCause, State.notify_tu]

/-- A raise of R95 puts a level cause into the active set, an event cause not, and takes none out but the run-only ones. -/
theorem State.raise_has (s : State) (c : Cause) {d : Cause} (hd : d.runOnly = false) :
    (s.raise c).tu.active.has d = (s.tu.active.has d || (decide (d = c) && !s.isEvent c)) := by
  unfold State.raise
  by_cases he : s.isEvent c = true
  · rw [if_pos he, State.consequences_has _ _ hd]
    simp [he]
  · rw [if_neg he]
    by_cases ha : s.tu.active.has c = true
    · rw [if_pos ha]
      by_cases e : d = c
      · subst e; simp [ha]
      · simp [e]
    · rw [if_neg ha, State.consequences_has _ _ hd]
      simp only [State.setTu_tu, CauseSet.has_insert]
      simp [he]

/-- What a raise leaves in the latched set (R95). -/
theorem State.raise_latched (s : State) (c : Cause) :
    (s.raise c).tu.latched =
      if s.isEvent c || (!s.tu.active.has c && (s.actionEntry c).latch) then s.tu.latched.insert c else s.tu.latched := by
  unfold State.raise
  by_cases he : s.isEvent c = true
  · rw [if_pos he, State.consequences_latched]
    simp [he]
  · rw [if_neg he]
    by_cases ha : s.tu.active.has c = true
    · rw [if_pos ha]; simp [he, ha]
    · rw [if_neg ha, State.consequences_latched]
      cases (s.actionEntry c).latch <;> simp [he, ha]

end Sys2Proof.Machine
end

