-- ==== Sys2Proof/Tests/Slice0.lean ====
section
/-! SUPPORT. Tests, each a named theorem. The expected figures come from the manual's worked cases, its layout tables and hand
calculation from its rules, and the check words from a bitwise calculation of R152 made outside the model. Then one witness for each
statement of Certificates/Slice0/Obligations.lean that has hypotheses: concrete states and operands that meet them, clause by clause,
at the boundary values of each clause. -/

namespace Sys2Proof.Tests

open Sys2Proof Sys2Proof.Machine

-- one theorem after another: each kernel evaluation below waits for the declarations before it, and so many waiting at once
-- would each hold a thread
set_option Elab.async false

/-! ## States to test on -/

/-- The state a command leaves; no command ends in a fault or a refusal. -/
def after (c : Instr) (s : State) : State :=
  match exec c s with
  | .next t => t
  | _ => s

/-- A word from a signed count. -/
def w (x : Int) : Word := BitVec.ofInt 16 x

def lockedLink : LinkUnit := { linkReset with state := .locked, good := 12, timer := some 0 }

/-- Right after reset, with every link LOCKED. -/
def talking : State :=
  { State.reset with linkC := lockedLink, linkA := lockedLink, linkB := lockedLink, linkS := lockedLink }

/-- STOPPED with nothing raised, both motors calibrated, the store IDLE and the capture ARMED. -/
def stopped : State :=
  { talking with
    tu := { talking.tu with latched := 0, e := .ignore, drive := .stopped, tout := false }
    regA := { regulatorReset with calibrated := true, age := 0 }
    regB := { regulatorReset with calibrated := true, age := 0 }
    rs := { recordStoreReset [] with state := .idle }
    cb := { captureReset with state := .armed }
    me := { talking.me with high := [] } }

/-- RUN, the start flag held. -/
def running : State :=
  { stopped with tu := { stopped.tu with drive := .run }, tl := { limiterReset with prevStart := true } }

/-- Every cause at the same ACTION entry. -/
def allAct (a : Action) (capture log : Bool) : Vector ActionEntry 31 :=
  Vector.replicate 31 { action := a, capture := capture, log := log, latch := false, priority := .low }

def setActions (s : State) (v : Vector ActionEntry 31) : State :=
  { s with me := { s.me with active := { s.me.active with action := v } } }

def setTorque (s : State) (t : TorqueScalars) : State :=
  { s with me := { s.me with active := { s.me.active with torque := { s.me.active.torque with scalars := t } } } }

def setVibration (s : State) (t : VibrationTable) : State :=
  { s with me := { s.me with active := { s.me.active with vibration := t } } }

def setNPost (s : State) (n : Nat) : State :=
  { s with me := { s.me with active := { s.me.active with line := { s.me.active.line with nPost := n } } } }

def setMotorA (s : State) (e : MotorEntry) : State :=
  { s with me := { s.me with active := { s.me.active with motor := { s.me.active.motor with a := e } } } }

/-- A Sample of motor currents, with a quiet DC link and heatsink. -/
def plainSample : SampleFrame := { seq := 77, ia := 1000, ib := 500, udc := 30000, temp := 300, flags := 0 }

def plainDemand (start : Bool) : DemandFrame := { seq := 9, start := start, a := ⟨0, 0, 0, 0⟩, b := ⟨0, 0, 0, 0⟩ }

/-- A Sweep of two channels. -/
def pairSweep (x0 x1 reference : Int) (echo : Byte) : SweepFrame :=
  { seq := 5, testEcho := echo, group := 2, values := [w x0, w x1], reference := w reference }

/-- Channels 0 and 1 in service, Normal, every cause at Notice. -/
def watching : State :=
  let t := vibrationDefault
  let e : ChannelEntry :=
    { enable := true, alert := Vector.replicate 4 250, alarm := Vector.replicate 4 400, trip := Vector.replicate 4 600 }
  let s := setActions (setVibration running
    { channels := (t.channels.set 0 e).set 1 e, scalars := { t.scalars with w := 4, refLo := 1000, refHi := 3000 } })
    (allAct .notice false false)
  let n : Channel := { channelReset with grade := some 0 }
  { s with vm := { vibrationReset with channels := (vibrationReset.channels.set 0 n).set 1 n } }

/-- RUN with every cause at Notice, neither captured nor logged. -/
def noticingLinks : State := setActions running (allAct .notice false false)

def aSnapshot : Snapshot :=
  { period := 7, seq := 9, drive := .run, e := .ignore, h := 32767, a := readingReset, b := readingReset, v := 0, worst := none,
    worstRms := 0 }

def aRecord : Record := restartRecord powerOnOnly

/-- A capture that is running with `n` snapshots to come, two written, and a record bound to it. -/
def capturing (n : Nat) : State :=
  { running with
    cb := { captureReset with
      state := .triggered, slots := [(0, aSnapshot), (1, aSnapshot)], writeIndex := 2, valid := 2, remaining := n,
      causes := [.cause 14], cadence := some 0 }
    rs := { running.rs with gathering := some { record := aRecord, timer := none, bound := true } } }

/-- The same, `k` steps of 0.1 ms after its last period reference. -/
def capturingSince (k n : Nat) : State :=
  { capturing n with cb := { (capturing n).cb with cadence := some k } }

/-- A frozen capture with two snapshots. -/
def frozenCapture : State :=
  { running with
    cb := { captureReset with
      state := .frozen, slots := [(0, aSnapshot), (1, aSnapshot)], writeIndex := 2, valid := 2, causes := [.request] } }

/-- A store with one stored record, number 7 in slot 20, and records waiting. -/
def storing (state : StoreState) (slot : Fin 64) (array : Slots ArraySlot) (queue : List Record) : State :=
  { stopped with rs := { recordStoreReset array with state := state, nextSeq := 8, writeSlot := slot, queue := queue } }

/-- A reset of the kinds given is held, every block at its reset values. -/
def resetHeld (held : ResetHold) : State :=
  { State.reset with
    held := held
    rs := recordStoreReset []
    me := managementReset }

/-! ## Well-formed commands: each check refuses an ill-formed one -/

theorem test_wellFormed_refuses_sweep_of_odd_group :
    Instr.wellFormed (.sweep { pairSweep 0 0 0 0 with group := 3, values := [0, 0, 0] }) = false := by decide

theorem test_wellFormed_refuses_sweep_with_a_value_missing :
    Instr.wellFormed (.sweep { pairSweep 0 0 0 0 with values := [0] }) = false := by decide

theorem test_wellFormed_refuses_short_write_entry :
    Instr.wellFormed (.writeEntry 1 0 0 (List.replicate 23 0)) = false := by decide

theorem test_wellFormed_refuses_known_code_as_unknown :
    Instr.wellFormed (.unknownRequest 1 20 []) = false ∧ Instr.wellFormed (.unknownRequest 1 16 [0, 5]) = false := by decide

theorem test_wellFormed_refuses_overlong_request :
    Instr.wellFormed (.unknownRequest 1 21 (List.replicate 255 0)) = false := by decide +kernel

theorem test_wellFormed_refuses_release_of_a_requested_reset :
    Instr.wellFormed (.resetRelease .requested) = false := by decide

theorem test_wellFormed_accepts :
    Instr.wellFormed (.sweep (pairSweep 0 0 0 0)) = true ∧ Instr.wellFormed (.writeEntry 1 0 0 (List.replicate 24 0)) = true ∧
    Instr.wellFormed (.unknownRequest 1 21 []) = true ∧ Instr.wellFormed (.unknownRequest 1 16 [0, 6]) = true ∧
    Instr.wellFormed (.resetRelease .line) = true := by decide

/-! ## Frames, word by word from the layouts of R166 -/

theorem test_frame_sample :
    decodeFrame .A { words := [0x0606, 77, 1000, 500, 30000, 300, 0, 0x722A] } = some (.sample .A plainSample) := by
  decide +kernel

theorem test_frame_demand :
    decodeFrame .C { words := [0x0109, 0x0901, 100, 0xFF38, 0x2000, 300, 50, 400, 0x4000, 0xFED4, 0xCA0B] } =
      some (.demand { seq := 9, start := true, a := ⟨100, w (-200), 8192, 300⟩, b := ⟨50, 400, 16384, w (-300)⟩ }) := by
  decide +kernel

theorem test_frame_sweep :
    decodeFrame .S { words := [0x0805, 5, 0x0402, 100, 0x8000, 2000, 0x3818] } =
      some (.sweep { seq := 5, testEcho := 4, group := 2, values := [100, 0x8000], reference := 2000 }) := by decide +kernel

theorem test_frame_requests :
    decodeFrame .C { words := [0x0201, 0x1101, 0xCE35] } = some (.readStatus 0x11) ∧
    decodeFrame .C { words := [0x0204, 0x1202, 4, 1, 9, 0xF4C0] } = some (.readEntry 0x12 4 1 9) ∧
    decodeFrame .C { words := [0x0203, 0x0710, 1, 4, 0xCE65] } = some (.relockNow 7 1) ∧
    decodeFrame .C { words := [0x0203, 0x0511, 1, 2, 0x3E09] } = some (.setTime 5 1 2) ∧
    decodeFrame .C { words := [0x0202, 0x0115, 9, 0xE51A] } = some (.unknownRequest 1 21 [9]) := by decide +kernel

theorem test_frame_write_entry :
    decodeFrame .C { words := [0x021B, 0x0303, 4, 9, 200] ++ List.replicate 23 0 ++ [0xD16D] } =
      some (.writeEntry 3 4 9 (200 :: List.replicate 23 0)) := by decide +kernel

/-- A wrong check word, a part of a word, a kind of the wrong link, an empty Request, and a single word. -/
theorem test_frames_discarded :
    decodeFrame .C { words := [0x0201, 0x1101, 0xCE34] } = none ∧
    decodeFrame .C { words := [0x0201, 0x1101, 0xCE35], ragged := true } = none ∧
    decodeFrame .B { words := [0x0201, 0x1101, 0xCE35] } = none ∧
    decodeFrame .C { words := [0x0200, 0x0C0E] } = none ∧
    receiveFrame .S { words := [0x0805] } = .frameDiscarded .S := by decide +kernel

/-- Frames the part sends. -/
theorem test_frames_sent :
    Sent.lineWords (.modulation .A { seq := 77, gate := true, va := -1131, vb := 1103 }) =
      [0x0704, 77, 1, 0xFB95, 0x044F, 0xB02F] ∧
    Sent.lineWords (.sweepOrder { testBits := 4, group := 4 }) = [0x0901, 0x0404, 0x2C2B] ∧
    Sent.lineWords (.management (.notice restartNotice)) = [0x0504, 0x0100, 29, 0, 0, 0xE2FC] ∧
    Sent.lineWords (.management (.reply { tag := 0x11, code := 6, status := .done, result := [0, 0] })) =
      [0x0404, 0x1106, 0, 0, 0, 0x8136] := by decide +kernel

/-! ## The Sample (chapter 01) -/

/-- The manual's worked case, one Sample on motor A. -/
theorem test_sample_worked_case :
    let s := setMotorA running { motorEntryDefault with kpD := 8192, kpQ := 8192, kiD := 4096, kiQ := 4096 }
    let s := { s with
      tl := { s.tl with ldA := { id := 1500, iq := 400, theta0 := 8192, dtheta := 0, limit := 400 } }
      regA := { s.regA with offsetA := 12, offsetB := -8, intD := 1000000, intQ := 65536000, age := 0 } }
    let t := after (.sample .A plainSample) s
    t.regA.idMeas = 1517 ∧ t.regA.iqMeas = 119 ∧ t.regA.intD = 930368 ∧ t.regA.intQ = 66686976 ∧ t.regA.age = 1 ∧
    t.sent = [.modulation .A { seq := 77, gate := true, va := -1131, vb := 1103 }] := by decide +kernel

/-- A P-link that is not LOCKED answers itself: gates off, and the Sample counts toward lock (R158). -/
theorem test_sample_searching :
    let t := after (.sample .B plainSample) { running with linkB := linkReset }
    t.sent = [.modulation .B { seq := 77, gate := false, va := 0, vb := 0 }] ∧ t.linkB.state = .locking ∧ t.linkB.good = 1 ∧
    t.regB = running.regB := by decide +kernel

/-! ## The Demand (chapters 02 and 06) -/

/-- The manual's worked case, limit and share in band 5. -/
theorem test_demand_worked_case :
    let b : BandEntry := { period := 30000, limitA := 12000, limitB := 12000, total := 18000 }
    let m := running.me
    let a := m.active
    let s := { running with
      me := { m with active := { a with
        motor := { a := { motorEntryDefault with idMax := 3000 }, b := { motorEntryDefault with idMax := 3000 } }
        torque := { a.torque with bands := a.torque.bands.set 5 b }
        vibration := { a.vibration with
          scalars := { a.vibration.scalars with derate := #v[32767, 29491, 32767, 32767] } } } }
      mt := { state := .tracking, counter := 0, lastPeriod := 25000, silence := 0 }
      vm := { vibrationReset with v := 1 } }
    let t := after (.demand { plainDemand true with a := ⟨1500, 11500, 0, 0⟩, b := ⟨1500, 9000, 0, 0⟩ }) s
    t.tl.ldA.id = 1500 ∧ t.tl.ldA.iq = 9818 ∧ t.tl.ldA.limit = 10800 ∧ t.tl.ldB.iq = 8181 ∧ t.tl.ldB.limit = 10800 := by
  decide +kernel

/-- A rising edge in STOPPED with every condition met starts the drive, and the Report says so (R102, R48). -/
theorem test_demand_starts_the_drive :
    let t := after (.demand (plainDemand true)) stopped
    t.tu.drive = .run ∧ t.tl.prevStart = true ∧ t.me.demandCount = 1 ∧ t.report.drive = .run ∧ t.report.seq = 9 ∧
    t.report.reason = .none ∧ t.up.sending = .report t.report := by decide +kernel

/-! ## The Sweep (chapters 04 and 05) -/

/-- The manual's worked case, one step of the running mean; the other channel's value is −32768, read as −32767. -/
theorem test_sweep_worked_case :
    let c := { watching.vm.channels[0] with mean := 6553600 }
    let t := after (.sweep (pairSweep 164 (-32768) 2000 0)) { watching with vm := { watching.vm with channels := watching.vm.channels.set 0 c } }
    t.vm.channels[0].mean = 6569984 ∧ t.vm.channels[0].sum = 4096 ∧ t.vm.channels[0].peak = 64 ∧
    t.vm.channels[1].sum = 1073676289 ∧ t.vm.window = 1 ∧ t.sent = [.sweepOrder { testBits := 0, group := 2 }] := by
  decide +kernel

/-- The fourth reference in a row outside (the worked case of a failing reference, Sweep 8). -/
theorem test_sweep_fails_the_reference :
    let t := after (.sweep (pairSweep 0 0 3800 0)) { watching with scu := { sensorReset with outRun := 3 } }
    t.scu.refFail = true ∧ t.scu.outRun = 0 ∧ t.tu.active.has .sensorRef = true ∧ t.vm.channels[0].held = true := by
  decide +kernel

/-- The worked case of one window, and of a rise at window 3. -/
theorem test_window_and_grading :
    isqrt (1600000 / 16) = 316 ∧
    (let c := { channelReset with grade := some 0, upCount := 2, upLowest := 1 }
     let d := c.graded (gradeOf 300 0 250 400 600) (gradeOf 300 50 250 400 600) 3 2
     d.grade = some 1 ∧ d.upCount = 0 ∧ d.downCount = 0) := by decide +kernel

/-! ## The other frames and link events (chapter 09) -/

/-- Sample 4 of the worked case: discarded in LOCKING. -/
theorem test_frameDiscarded_in_locking :
    let t := after (.frameDiscarded .A) { running with linkA := { linkReset with state := .locking, good := 3, timer := some 5 } }
    t.linkA = { linkReset with state := .locking, good := 0, errors := 1, timer := some 5 } := by decide +kernel

/-- P-link A lost in RUN: the drive trips (the worked case at 6.00). The timeout is 10 steps; right after a good frame none follows. -/
theorem test_linkTimeout_of_a_locked_power_link :
    let t := after (.linkTimeout .A) { running with linkA := { lockedLink with timer := some 9 } }
    after (.linkTimeout .A) running = running ∧
    t.linkA.state = .lost ∧ t.tu.active.has 25 = true ∧ t.tu.drive = .tripped ∧ t.tu.tout = true ∧
    t.me.low = [{ kind := .linkState, subject1 := 1, subject2 := 4, demandCount := 0, overflow := false }] := by decide +kernel

theorem test_controlFrame_counts_toward_lock :
    (after .controlFrameNotLocked { running with linkC := { linkReset with state := .locking, good := 11, timer := some 3 } }).linkC =
      { linkReset with state := .locked, good := 12, timer := some 0 } := by decide +kernel

/-- The worked case of three slots: a Reply goes first. -/
theorem test_reportSent_opens_a_slot_for_the_reply :
    let r : Reply := { tag := 3, code := 12, status := .done, result := [] }
    let s := { running with
      up := { sending := .report running.report, waiting := none }
      me := { running.me with replies := [r], high := [restartNotice] } }
    let t := after .reportSent s
    t.up.sending = .management (.reply r) ∧ t.me.replies = [] ∧ t.me.high = [restartNotice] := by decide +kernel

theorem test_managementFrameSent_lets_the_waiting_report_go :
    let s := { running with up := { sending := .management (.notice restartNotice), waiting := some running.report } }
    (after .managementFrameSent s).up = { sending := .report running.report, waiting := none } := by decide +kernel

theorem test_link_control :
    (after (.linkEnable 1 3) { running with linkS := { linkReset with state := .down } }).linkS.state = .searching ∧
    (after (.linkDisable 1 3) running).linkS = { linkReset with state := .down } ∧
    (after (.relockOff 1 1) running).linkA.relock = false ∧
    (after (.relockOn 1 1) { running with linkA := { lockedLink with relock := false } }).linkA.relock = true ∧
    (after (.relockNow 1 2) { running with linkB := { linkReset with state := .lost, timer := some 3 } }).linkB.state = .searching ∧
    (after (.clearErrorCount 1 0) { running with linkC := { lockedLink with errors := 8 } }).linkC.errors = 0 := by
  decide +kernel

/-- The result words of LINK CONTROL: relock mode and state, good count, error count. -/
theorem test_link_control_replies :
    (after (.linkDisable 1 1) running).me.replies =
      [{ tag := 1, code := 16, status := .refusedState, result := [0x8003, 12, 0] }] ∧
    (after (.relockOff 1 0) running).me.replies =
      [{ tag := 1, code := 16, status := .refusedState, result := [0x8003, 12, 0] }] ∧
    (after (.clearErrorCount 2 4) running).me.replies =
      [{ tag := 2, code := 16, status := .badIndex, result := [0, 0, 0] }] := by decide +kernel

/-! ## Tables, requests and time (chapter 10) -/

/-- Words 4 to 11 of READ STATUS right after power-on: TRIPPED, Trip, {power-on}; every cause acts at Trip. -/
theorem test_readStatus_after_reset :
    let t := after (.readStatus 5) talking
    (t.me.replies.map fun r => (r.tag, r.code, r.status, r.result.length)) = [(5, 1, .done, 64)] ∧
    (t.me.replies.map fun r => [2, 4, 5, 11, 14, 15].map fun n => r.result.getD n 0) =
      [[0x2000, 0xE010, 0x4924, 4, 0x07FE, 1]] := by decide +kernel

/-- LINE index 4, the marker entry, at its defaults: 300,000 is 4 × 65536 + 37,856. -/
theorem test_readEntry_of_the_marker :
    (after (.readEntry 6 4 0 4) running).me.replies =
      [{ tag := 6, code := 2, status := .done, result := [0, 0, 2000, 4, 37856] ++ List.replicate 19 0 }] := by decide +kernel

/-- G = 7 is lowered to 6, and k = 2 raised to 4: two fields changed. -/
theorem test_writeEntry_clamps :
    let t := after (.writeEntry 6 2 8
      [7, 8, 2, 3, 3, 0, 1, 54464, 0, 40000, 0, 20000, 32767, 32767, 32767, 32767, 0, 100, 0, 0, 8, 100, 64, 0]) running
    t.me.standby.vibration.scalars.g = 6 ∧ t.me.standby.vibration.scalars.k = 4 ∧ t.me.standby.vibration.scalars.vp1 = 120000 ∧
    t.me.active = running.me.active ∧ t.me.replies = [{ tag := 6, code := 3, status := .clamped, result := [2] }] := by
  decide +kernel

/-- The worked case of retuning: channel 3's alarm above its trip. -/
theorem test_switchBank_names_the_offending_channel :
    let c := { channelEntryDefault with trip := Vector.replicate 4 100 }
    let b := { running.me.standby with
      vibration := { running.me.standby.vibration with channels := running.me.standby.vibration.channels.set 3 c } }
    let t := after (.switchBank 1 2) { running with me := { running.me with standby := b } }
    t.me.replies = [{ tag := 1, code := 5, status := .badTable, result := [3] }] ∧ t.me.pendingSwitch.vibration = false := by
  decide +kernel

theorem test_switchBank_pends_and_the_demand_exchanges :
    let t := after (.switchBank 1 4) running
    t.me.pendingSwitch.line = true ∧ t.me.replies = [{ tag := 1, code := 5, status := .pending, result := [0] }] ∧
    (let b := { running.me.standby with line := { running.me.standby.line with nPost := 9 } }
     let u := after (.demand (plainDemand true)) { running with me := { t.me with standby := b } }
     u.act.line.nPost = 9 ∧ u.me.standby.line.nPost = 128 ∧ u.me.pendingSwitch.line = false) := by decide +kernel

theorem test_copyBank :
    let b := { running.me.active with line := { running.me.active.line with nPost := 9 } }
    let t := after (.copyBank 1 4) { running with me := { running.me with active := b } }
    t.me.standby.line.nPost = 9 ∧ t.me.replies = [{ tag := 1, code := 4, status := .done, result := [] }] := by decide +kernel

theorem test_setTime :
    let t := after (.setTime 1 2 3) running
    t.me.seconds = 131075 ∧ t.me.timeSet = true := by decide +kernel

/-- R176: the 10000th 0.1 ms steps the counter; a SET TIME just before it restarts the second, so that it does not. -/
theorem test_setTime_restarts_the_second :
    let s := { running with time := { running.time with secondTenths := 9999 } }
    let t := after (.setTime 1 2 3) s
    s.tick.me.seconds = 1 ∧ s.tick.time.secondTenths = 0 ∧ (after .secondsCounterStep s).me.seconds = 1 ∧
    t.tick.me.seconds = 131075 ∧ t.tick.time.secondTenths = 1 ∧ (after .secondsCounterStep t).me.seconds = 131075 := by
  decide +kernel

theorem test_secondsCounter_saturates :
    let s := { running with
      me := { running.me with seconds := 4294967295 }, time := { running.time with secondTenths := 9999 } }
    (after .secondsCounterStep s).me.seconds = 4294967295 ∧ (after .secondsCounterStep s).time.secondTenths = 0 := by
  decide +kernel

theorem test_setNoticeMask :
    let t := after (.setNoticeMask 1 0xFFFF) { running with me := { running.me with mask := 2 } }
    t.me.mask = 0x07FE ∧ t.me.replies = [{ tag := 1, code := 18, status := .done, result := [2] }] := by decide +kernel

theorem test_unknownRequest :
    (after (.unknownRequest 9 21 [5]) running).me.replies = [{ tag := 9, code := 21, status := .unknown, result := [] }] ∧
    (after (.unknownRequest 9 16 [1, 6]) running).me.replies =
      [{ tag := 9, code := 16, status := .badIndex, result := [0x8003, 12, 0] }] := by decide +kernel

/-- The worked case of a full low queue: a loss flags the tail. -/
theorem test_full_queue_flags_its_tail :
    let s := { running with me := { running.me with low := List.replicate 8 restartNotice } }
    (s.notify .calDone 1 0 .low).me.low = List.replicate 7 restartNotice ++ [{ restartNotice with overflow := true }] := by
  decide +kernel

/-! ## The trip unit and the resets (chapter 06) -/

/-- The worked case from power-on: an ACKNOWLEDGE with nothing active takes the drive to STOPPED and releases TOUT. -/
theorem test_acknowledge_leaves_tripped :
    let t := after (.acknowledge 1) talking
    t.tu.drive = .stopped ∧ t.tu.tout = false ∧ t.tu.latched = 0 ∧ t.tu.e = .ignore ∧
    t.me.replies = [{ tag := 1, code := 6, status := .done, result := [0, 0] }] := by decide +kernel

theorem test_requestTrip :
    let t := after (.requestTrip 1) running
    t.tu.drive = .tripped ∧ t.tu.latched.has 28 = true ∧ t.tu.active = 0 ∧ t.cb.state = .triggered := by decide +kernel

/-- The worked case of a protection relay pulse: raw falls, and the 20 ms later the filtered level follows. -/
theorem test_trip_input_pulse :
    let l := { running.me.active.line with
      tin := running.me.active.line.tin.set 2 { sense := .falling, minDuration := 20 } }
    let s := { running with me := { running.me with active := { running.me.active with line := l } } }
    let t := after (.tripInputChange 2 .low) s
    t.tu.tin[2] = { raw := .low, filtered := .high, stable := 0 } ∧ t.tu.drive = .run ∧
    (let u := after (.filteredTransition 2) { t with tu := { t.tu with tin := t.tu.tin.set 2 { t.tu.tin[2] with stable := 19 } } }
     u.tu.tin[2] = { raw := .low, filtered := .low, stable := 20 } ∧ u.tu.latched.has 2 = true ∧ u.tu.drive = .tripped) := by
  decide +kernel

theorem test_powerOnReset :
    let t := after .powerOnReset running
    t.tu.restart = powerOnOnly ∧ t.tu.drive = .tripped ∧ t.tu.tout = true ∧ t.inReset = true ∧ t.me.high = [] := by
  decide +kernel

theorem test_lineReset_and_release :
    let t := after .lineReset running
    t.tu.restart = { powerOn := true, line := true, requested := false } ∧ t.held.line = true ∧
    (let u := after (.resetRelease .line) t
     u.inReset = false ∧ u.me.high = [restartNotice] ∧ u.rs.gathering.isSome = true ∧ u.tu.latched.has 29 = true) := by
  decide +kernel

/-- The last moment of the worked case of power lost: the slot being programmed reads Invalid. -/
theorem test_lossOfSupply_cuts_a_program :
    let t := after .lossOfSupply (storing .programming 47 [(47, .invalid)] [aRecord])
    t.rs.array = [(47, .invalid)] ∧ t.rs.queue = [] ∧ t.supply = false ∧ t.tu.tout = true := by decide +kernel

theorem test_reset_request :
    (after (.reset 1) running).me.replies = [{ tag := 1, code := 19, status := .refusedState, result := [] }] ∧
    (let t := after (.reset 1) stopped
     t.tu.drive = .tripped ∧ t.me.replies = [] ∧ t.tu.restart.requested = true ∧ t.me.high = [restartNotice]) := by
  decide +kernel

theorem test_clearRestartCause :
    let s := { running with tu := { running.tu with restart := { powerOn := true, line := false, requested := true } } }
    let t := after (.clearRestartCause 1) s
    t.tu.restart = { powerOn := false, line := false, requested := false } ∧
    t.me.replies = [{ tag := 1, code := 20, status := .done, result := [5] }] := by decide +kernel

/-! ## The marker (chapter 03) -/

/-- The worked case of a ring at 25,200: an accepted edge; and at 800 a glitch. With MK high already no level changes (R50). -/
theorem test_activeEdge :
    let s (n : Nat) := { running with mt := { state := .tracking, counter := n, lastPeriod := 25000, silence := n } }
    (after (.activeEdge .rising) (s 25200)).mt = { state := .tracking, counter := 0, lastPeriod := 25200, silence := 0 } ∧
    (after (.activeEdge .rising) (s 800)).mt = (s 800).mt ∧
    (after (.activeEdge .rising) { s 25200 with pins := { running.pins with marker := .high } }).mt = (s 25200).mt := by decide +kernel

/-- The worked case at 355,200: the expiry finds the silence time at max_period and raises MARKER_LOST. -/
theorem test_markerExpiry :
    let s := { watching with mt := { state := .tracking, counter := 299999, lastPeriod := 30000, silence := 299999 } }
    let t := after .markerExpiry s
    t.mt = { state := .lost, counter := 0, lastPeriod := 30000, silence := 300000 } ∧ t.tu.active.has .markerLost = true := by
  decide +kernel

theorem test_silenceTimeReached :
    let s := { watching with mt := { state := .lost, counter := 100, lastPeriod := 0, silence := 299999 } }
    let t := after .silenceTimeReached s
    t.mt = { state := .lost, counter := 101, lastPeriod := 0, silence := 300000 } ∧ t.tu.active.has .markerLost = true := by
  decide +kernel

theorem test_markerTimerStep :
    (after .markerTimerStep { running with mt := { state := .tracking, counter := 7, lastPeriod := 9, silence := 300000 } }).mt =
      { state := .tracking, counter := 8, lastPeriod := 9, silence := 300000 } := by decide +kernel

/-- The worked case of forming the bands. -/
theorem test_bands :
    let s (n : Nat) := { running with mt := { state := .tracking, counter := 0, lastPeriod := n, silence := 0 } }
    ((s 25000).torqueBand, (s 25000).vibrationBand) = (5, 2) ∧ ((s 30000).torqueBand, (s 30000).vibrationBand) = (4, 2) ∧
    ((s 15000).torqueBand, (s 15000).vibrationBand) = (7, 3) ∧ ((s 240000).torqueBand, (s 240000).vibrationBand) = (0, 0) ∧
    ((s 200000).torqueBand, (s 200000).vibrationBand) = (1, 0) := by decide +kernel

/-! ## The capture window (chapter 07) -/

theorem test_captureNow_in_armed :
    let t := after (.captureNow 1) running
    t.cb.state = .triggered ∧ t.cb.causes = [.request] ∧ t.cb.remaining = 128 ∧
    t.me.replies = [{ tag := 1, code := 8, status := .done, result := [2] }] := by decide +kernel

theorem test_captureRelease_of_a_frozen_capture :
    let t := after (.captureRelease 1) frozenCapture
    t.cb.state = .armed ∧ t.cb.valid = 0 ∧ t.cb.causes = [] ∧ t.cb.writeIndex = 2 := by decide +kernel

theorem test_captureDisarm_abandons :
    let t := after (.captureDisarm 1) (capturing 5)
    t.cb.state = .disarmed ∧ t.cb.cadence = none ∧ t.rs.gathering = none ∧ t.rs.queue = [{ aRecord with summary := none }] := by
  decide +kernel

/-- Word 1 of the snapshot: Demand sequence 9, RUN, Ignore. -/
theorem test_readCapture :
    ((after (.readCapture 1 1) frozenCapture).me.replies.map fun r =>
      (r.status, r.result.length, [0, 1, 15, 16, 17].map fun n => r.result.getD n 0)) = [(.done, 21, [7, 0x0940, 2, 1, 31])] ∧
    (after (.readCapture 1 2) frozenCapture).me.replies =
      [{ tag := 1, code := 11, status := .badIndex, result := List.replicate 21 0 }] := by decide +kernel

/-- The short freeze of the worked case: the bound record closes with the short summary. -/
theorem test_cadenceTimeout :
    let t := after .cadenceTimeout (capturingSince 199 108)
    after .cadenceTimeout (capturingSince 198 108) = capturingSince 198 108 ∧ t.cb.state = .frozen ∧ t.cb.short = true ∧ t.cb.remaining = 108 ∧ t.rs.gathering = none ∧
    (t.rs.queue.map fun r => r.summary.map fun m => (m.valid, m.short)) = [some (2, true)] := by decide +kernel

/-- The freeze at the last period reference (the worked case, period reference 4). -/
theorem test_capture_freezes_at_its_last_period :
    let t := after (.sample .A plainSample) (capturing 1)
    t.cb.state = .frozen ∧ t.cb.short = false ∧ t.cb.valid = 3 ∧ t.cb.writeIndex = 3 ∧ t.cb.periods = 1 := by decide +kernel

/-! ## The record store (chapter 08) -/

/-- The boundary case at 4 ms: the bad verify leaves slot 47 Invalid and begins the erase of sector 3. -/
theorem test_programComplete_bad_at_a_boundary :
    let t := after (.programComplete false) (storing .programming 47 [(47, .invalid), (50, .valid 3 aRecord)] [aRecord])
    t.rs.state = .erasing ∧ t.rs.writeSlot = 48 ∧ t.rs.retry = true ∧ t.rs.nextSeq = 8 ∧ slotAt 47 t.rs.array = some .invalid ∧
    slotAt 50 t.rs.array = some .invalid := by decide +kernel

theorem test_programComplete_good :
    let t := after (.programComplete true) (storing .programming 49 [(49, .invalid)] [aRecord])
    t.rs.array = [(49, .valid 8 aRecord)] ∧ t.rs.nextSeq = 9 ∧ t.rs.writeSlot = 50 ∧ t.rs.state = .idle ∧ t.rs.queue = [] ∧
    t.me.low = [{ kind := .recordStored, subject1 := 0, subject2 := 8, demandCount := 0, overflow := false }] := by
  decide +kernel

theorem test_eraseComplete :
    let s := storing .erasing 48 [(48, .invalid), (49, .invalid)] [aRecord]
    let t := after (.eraseComplete 0) s
    t.rs.state = .programming ∧ t.rs.array = [(48, .invalid)] ∧
    (let u := after (.eraseComplete 2) s
     u.rs.state = .fault ∧ u.tu.active.has .logFault = true ∧ slotAt 48 u.rs.array = none ∧ slotAt 49 u.rs.array = some .invalid) := by
  decide +kernel

theorem test_eraseLog_and_the_clear :
    let t := after (.eraseLog 1) (storing .idle 20 [(3, .valid 6 aRecord), (20, .valid 7 aRecord)] [])
    t.rs.state = .clearing 0 ∧ slotAt 3 t.rs.array = some .invalid ∧ slotAt 20 t.rs.array = some (.valid 7 aRecord) ∧
    t.me.replies = [{ tag := 1, code := 13, status := .pending, result := [] }] := by decide +kernel

theorem test_clearSectorComplete_ends_the_clear :
    let t := after (.clearSectorComplete 0) (storing (.clearing 3) 20 [(48, .invalid)] [])
    t.rs.state = .idle ∧ t.rs.array = [] ∧ t.rs.nextSeq = 1 ∧ t.rs.writeSlot = 0 ∧
    t.me.low = [{ kind := .logErased, subject1 := 0, subject2 := 0, demandCount := 0, overflow := false }] := by decide +kernel

/-- The scan of the worked case in little: the highest number is followed. -/
theorem test_scanEnd :
    let s := { storing .scanning 0 [(15, .valid 3 aRecord), (46, .valid 511 aRecord), (47, .invalid)] [] with cb := captureReset }
    let t := after .scanEnd s
    t.rs.nextSeq = 512 ∧ t.rs.writeSlot = 47 ∧ t.rs.state = .idle ∧ t.cb.state = .armed := by decide +kernel

/-- At 50 ms the RESTART record closes, slot 47 is skipped and the erase of sector 3 begins (the worked case of power lost). -/
theorem test_gatherExpiry :
    let s := storing .idle 47 [(47, .invalid)] []
    let t := after .gatherExpiry { s with
      rs := { s.rs with gathering := some { record := aRecord, timer := some 49, bound := false } } }
    t.rs.gathering = none ∧ t.rs.queue = [aRecord] ∧ t.rs.state = .erasing ∧ t.rs.writeSlot = 48 ∧ t.rs.clock = 1 := by
  decide +kernel

/-- The worked case of a full queue: the merge into Q4. -/
theorem test_merge_worked_case :
    let q4 := { aRecord with openedAt := 10000, first := 20, causes := List.replicate 6 (20, 0), further := 0 }
    let c := { aRecord with
      openedAt := 11200, first := 2, causes := [(18, 3), (14, 20)] ++ List.replicate 6 (14, 30), further := 3 }
    let r := q4.merge c
    r.causes = List.replicate 6 (20, 0) ++ [(2, 1200), (18, 1203)] ∧ r.further = 10 ∧ r.merged = true := by decide +kernel

theorem test_readRecord :
    ((after (.readRecord 1 1 0 7) (storing .idle 21 [(20, .valid 7 aRecord)] [])).me.replies.map fun r =>
      (r.status, r.result.length, r.result.take 7)) = [(.done, 44, [0x8180, 0, 7, 20, 0, 0, 0x1DE0])] ∧
    (after (.readRecord 1 2 0 0) (storing .idle 21 [(20, .valid 7 aRecord)] [])).me.replies =
      [{ tag := 1, code := 12, status := .badIndex, result := List.replicate 44 0 }] := by decide +kernel

/-! ## Long operations begun by a request -/

theorem test_calibrate :
    let t := after (.calibrate 1 1) stopped
    t.regB.calibration = some { count := 0, sumA := 0, sumB := 0 } ∧
    t.me.replies = [{ tag := 1, code := 14, status := .pending, result := [] }] ∧
    (after (.calibrate 1 0) running).me.replies = [{ tag := 1, code := 14, status := .refusedState, result := [] }] := by
  decide +kernel

theorem test_wireCheck :
    let t := after (.wireCheck 1 1) watching
    t.scu.wire = some { channel := 1, inject := false, count := 0, sBase := 0, sInject := 0, nW := 64, minShift := 100 } ∧
    t.me.replies = [{ tag := 1, code := 15, status := .pending, result := [] }] ∧
    (after (.wireCheck 1 2) watching).me.replies = [{ tag := 1, code := 15, status := .badIndex, result := [] }] := by
  decide +kernel

/-! ## The step -/

theorem test_step_takes_the_front :
    let due : TimeBases := { tenths := 3, secondTenths := 9999 }
    step { stopped with pending := [.secondsCounterStep, .scanEnd], time := due } =
      .next { stopped with
        pending := [.scanEnd], me := { stopped.me with seconds := 1 }, time := { tenths := 3, secondTenths := 0 } } := rfl

theorem test_idle_step_moves_a_link_timer :
    ∃ t, step stopped = .next t ∧ t.linkC.timer = some 1 ∧ t.linkA.timer = some 1 ∧ t.time.tenths = 1 :=
  ⟨stopped.tick, rfl, by decide +kernel⟩

/-- The tenth tick of a millisecond takes what its steps bring: P-link A at its timeout, TIN2 at its min_duration of 10 ms. -/
theorem test_idle_step_takes_the_expiries :
    let tin := running.tu.tin.set 2 { raw := .low, filtered := .high, stable := 9 }
    let s := { noticingLinks with
      linkA := { lockedLink with timer := some 9 }, tu := { noticingLinks.tu with tin := tin }, time := { tenths := 9, secondTenths := 0 } }
    let t := s.tick
    t.linkA.state = .lost ∧ t.linkB.timer = some 1 ∧ t.tu.tin[2] = { raw := .low, filtered := .low, stable := 10 } ∧
    t.tu.active.has (.tin 2) = true ∧ t.tu.active.has 25 = true ∧ t.rs.clock = 1 ∧ t.time.tenths = 0 := by decide +kernel

/-- R83 with flat_count 3: the third flat window sets the flag; the run then stays at its count. -/
theorem test_flat_run_stays_at_its_count :
    let k (n : Nat) (f : Bool) : ChannelCheck := { flat := f, flatRun := n, wireFault := false }
    (k 1 false).judgeFlat true 40 100 3 = k 2 false ∧ (k 2 false).judgeFlat true 40 100 3 = k 3 true ∧
    (k 3 true).judgeFlat true 40 100 3 = k 3 true ∧ (k 3 true).judgeFlat true 100 100 3 = k 0 false := by decide

/-! ## Witnesses: invariants on states of more than reset's contents -/

/-- Every command answers a next state: what `after` gives. -/
theorem exec_after (c : Instr) (s : State) : exec c s = .next (after c s) := by cases c <;> rfl

/-- In RUN: a wire check injecting on channel 1, channel 0 in Alert with VIB_ALERT active at Notice, a capture running with the record
bound to it, one record stored, a Sweep waiting. -/
def busy : State :=
  { watching with
    vm := { watching.vm with
      channels := watching.vm.channels.set 0 { channelReset with grade := some 1, rmsLast := 300 }, v := 1 }
    tu := { watching.tu with active := CauseSet.insert 0 .vibAlert, e := .notice }
    scu := { sensorReset with
      wire := some { channel := 1, inject := true, count := 3, sBase := 0, sInject := 0, nW := 64, minShift := 100 }
      testBits := 2 }
    cb := (capturing 5).cb
    rs := { recordStoreReset [(20, .valid 7 aRecord)] with
      state := .idle, nextSeq := 8, writeSlot := 21, gathering := (capturing 5).rs.gathering }
    pending := [.sweep (pairSweep 100 100 2000 2)] }

theorem driveInv_of {s : State} :
    (s.tu.e = s.effective ∧ (s.tu.e = .trip → s.tu.drive = .tripped) ∧
      (s.tu.drive = .run → s.tu.e.atHoldOrAbove = false) ∧ (s.tu.drive = .hold → s.tu.e = .hold) ∧
      (s.running = true →
        s.powerLinksLocked = true ∧ s.regA.calibrated = true ∧ s.regB.calibrated = true ∧ s.calibrating = false) ∧
      s.tu.tout = (decide (s.tu.drive = .tripped) || s.inReset) ∧ (s.inReset = true → s.tu.drive = .tripped) ∧
      (∀ c, s.isEvent c = true → s.tu.active.has c = false) ∧
      (s.running = false → s.tu.active.has .imbalance = false ∧ s.tu.active.has .stall = false ∧
        s.tu.active.has .markerLost = false ∧ s.tl.upRun = 0 ∧ s.tl.downRun = 0)) → DriveInv s :=
  fun ⟨a, b, c, d, e, f, g, h, i⟩ => ⟨a, b, c, d, e, f, g, h, i⟩

theorem bankInv_of {s : State} :
    ((∀ t ∈ allTables, s.me.active.offending t = none) ∧
      (∀ t ∈ allTables, s.me.pendingSwitch.get t = true → s.me.standby.offending t = none) ∧
      s.me.active.limited = true ∧ s.me.standby.limited = true) → BankInv s :=
  fun ⟨a, b, c, d⟩ => ⟨fun t => a t (by cases t <;> decide), fun t => b t (by cases t <;> decide), c, d⟩

theorem mem_of_slotAt {α : Type} {n : Nat} {v : α} : ∀ {x : Slots α}, slotAt n x = some v → (n, v) ∈ x
  | [], h => nomatch h
  | (k, u) :: rest, h => by
    by_cases e : k = n
    · simp only [slotAt, if_pos e, Option.some.injEq] at h
      simp [e, h]
    · simp only [slotAt, if_neg e] at h
      exact List.mem_cons_of_mem _ (mem_of_slotAt h)

/-- The invariant of the stores, for a store that neither writes nor erases and holds one record at most. -/
theorem storeInv_of {s : State} (h : Slots.Ok 256 s.cb.slots) (k : Slots.Ok 64 s.rs.array)
    (w : ∀ n : Fin 256, n.val < s.cb.valid → (slotAt (s.cb.validSlot n.val) s.cb.slots).isSome = true) (v : s.cb.valid ≤ 256)
    (state : s.rs.state = .scanning ∨ s.rs.state = .fault ∨ s.rs.state = .idle ∧ s.rs.queue = [])
    (q : Nat) (r : Record) (n : Nat)
    (only : ∀ p ∈ s.rs.array, p.2 = .invalid ∨
      (p = (n, .valid q r) ∧ (1 ≤ q ∧ q ≤ lastSequence) ∧ (s.rs.state = .idle → q < s.rs.nextSeq)))
    (next : 1 ≤ s.rs.nextSeq ∧ s.rs.nextSeq ≤ lastSequence) (b : r.bounded) : StoreInv s := by
  have one : ∀ i q' r', slotAt i s.rs.array = some (.valid q' r') →
      i = n ∧ q' = q ∧ r' = r ∧ (1 ≤ q ∧ q ≤ lastSequence) ∧ (s.rs.state = .idle → q < s.rs.nextSeq) := by
    intro i q' r' e
    rcases only _ (mem_of_slotAt e) with x | ⟨x, y, z⟩
    · exact nomatch x
    · cases x; exact ⟨rfl, rfl, rfl, y, z⟩
  have none_of : ∀ st : StoreState, st ≠ .scanning → st ≠ .fault → st ≠ .idle → s.rs.state = st → False := by
    intro st a b c e
    rcases state with y | y | ⟨y, -⟩
    · exact a (e.symm.trans y)
    · exact b (e.symm.trans y)
    · exact c (e.symm.trans y)
  refine ⟨h, k, fun m hm => w ⟨m, by omega⟩ hm, ?_, ?_, ?_, ?_, ?_, ?_, next, ?_, ?_⟩
  · intro e
    rcases state with y | y | ⟨-, y⟩
    · exact absurd (e.symm.trans y) (by decide)
    · exact absurd (e.symm.trans y) (by decide)
    · exact y
  · intro e; exact (none_of _ (by decide) (by decide) (by decide) e).elim
  · intro e; exact (none_of _ (by decide) (by decide) (by decide) e).elim
  · intro j e; exact (none_of _ (by nofun) (by nofun) (by nofun) e).elim
  · intro i j q' r' r'' e f
    rw [(one _ _ _ e).1, (one _ _ _ f).1]
  · intro i q' r' e
    obtain ⟨-, rfl, -, x, -⟩ := one _ _ _ e
    exact x
  · intro may i q' r' e
    obtain ⟨-, rfl, -, -, y⟩ := one _ _ _ e
    rcases may with m | m | m
    · exact y m
    · exact (none_of _ (by decide) (by decide) (by decide) m).elim
    · exact (none_of _ (by decide) (by decide) (by decide) m).elim
  · intro i q' r' e
    obtain ⟨-, -, rfl, -⟩ := one _ _ _ e
    exact b

theorem aRecord_bounded : aRecord.bounded := ⟨by decide, by decide⟩

theorem busy_drive : DriveInv busy := driveInv_of (by decide +kernel)

theorem busy_banks : BankInv busy := bankInv_of (by decide +kernel)

theorem busy_held : HeldInv busy := fun h => absurd h (by decide +kernel)

theorem busy_condition : ConditionInv busy := by
  constructor
  case linkLost => intro l c _ h; cases l <;> exact absurd h (by decide +kernel)
  case linkLocked => intro l c h _; cases l <;> cases h <;> decide +kernel
  case noFault => intro h; exact absurd h (by decide +kernel)
  all_goals decide +kernel

theorem busy_vibration : VibrationInv busy := by
  constructor
  case wire => intro w h; cases h; decide +kernel
  all_goals decide +kernel

theorem below_of {o : Option Nat} {k : Nat} (h : (o.all fun n => decide (n < k)) = true) : ∀ n, o = some n → n < k := by
  rintro n rfl; simpa using h

theorem linkRange_of {u : LinkUnit} :
    (u.good ≤ 48 ∧ u.errors ≤ 65535 ∧ (u.timer.isSome = true ↔ u.state = .locking ∨ u.state = .locked ∨ u.state = .lost) ∧
      (u.timer.all fun n => decide (n < 65535)) = true) → LinkRange u :=
  fun ⟨a, b, c, d⟩ => ⟨a, b, c, below_of d⟩

theorem channelRange_of {c : Channel} {n : Nat} :
    (c.mean.natAbs ≤ 32767 * 65536 ∧ c.sum ≤ n * (32767 * 32767) ∧ (c.peak ≤ 32767 ∧ c.peakLast ≤ 32767) ∧ c.rmsLast ≤ 32767 ∧
      (c.upCount ≤ 8 ∧ 1 ≤ c.upLowest.val) ∧ c.downCount ≤ 8) → ChannelRange c n :=
  fun ⟨a, b, c, d, e, f⟩ => ⟨a, b, c, d, e, f⟩

theorem busy_ranges : RangeInv busy := by
  constructor
  case regA => exact ⟨by decide +kernel, by decide +kernel, by decide +kernel, by decide +kernel, by decide +kernel, by decide +kernel,
    by decide +kernel, fun _ h => nomatch h⟩
  case regB => exact ⟨by decide +kernel, by decide +kernel, by decide +kernel, by decide +kernel, by decide +kernel, by decide +kernel,
    by decide +kernel, fun _ h => nomatch h⟩
  case ldA => exact ⟨by decide +kernel, by decide +kernel, by decide +kernel, by decide +kernel⟩
  case ldB => exact ⟨by decide +kernel, by decide +kernel, by decide +kernel, by decide +kernel⟩
  case links => intro l; cases l <;> exact linkRange_of (by decide +kernel)
  case channels =>
    have h : ∀ c : Fin 8, (busy.vm.channels[c].mean.natAbs ≤ 32767 * 65536 ∧
        busy.vm.channels[c].sum ≤ busy.vm.window * (32767 * 32767) ∧
        (busy.vm.channels[c].peak ≤ 32767 ∧ busy.vm.channels[c].peakLast ≤ 32767) ∧ busy.vm.channels[c].rmsLast ≤ 32767 ∧
        (busy.vm.channels[c].upCount ≤ 8 ∧ 1 ≤ busy.vm.channels[c].upLowest.val) ∧ busy.vm.channels[c].downCount ≤ 8) := by
      decide +kernel
    exact fun c => channelRange_of (h c)
  case checks =>
    have h : ∀ c : Fin 8, busy.scu.checks[c].flatRun ≤ 255 ∧
        (busy.scu.checks[c].flat = false → busy.scu.checks[c].flatRun ≤ 254) := by decide +kernel
    exact fun c => ⟨(h c).1, (h c).2⟩
  case wire =>
    intro w h
    cases h
    exact ⟨by decide, by decide, by decide, by decide, by decide⟩
  case cadence => exact below_of (by decide +kernel)
  case gather => intro g n h k; cases h; cases k
  all_goals decide +kernel

theorem queueInv_of {s : State} (h : s.me.replies.length ≤ 4 ∧ s.me.high.length ≤ 8 ∧ s.me.low.length ≤ 8 ∧ s.rs.queue.length ≤ 4 ∧
      s.cb.causes.length ≤ 4 ∧ s.cb.valid ≤ 256 ∧ s.cb.remaining ≤ 255 ∧
      (s.cb.state = .triggered ↔ s.cb.cadence.isSome = true) ∧ (s.cb.state = .triggered → 1 ≤ s.cb.remaining) ∧
      (s.cb.state = .triggered ∨ s.cb.state = .frozen → s.cb.causes ≠ []))
    (r : ∀ r ∈ s.rs.queue, r.bounded)
    (g : s.rs.gathering = none ∨
      ∃ g, s.rs.gathering = some g ∧ g.record.bounded ∧ (g.bound = true → s.cb.state = .triggered) ∧ g.bound = g.timer.isNone) :
    QueueInv s := by
  obtain ⟨a, b, c, d, e, f, i, j, k, l⟩ := h
  refine ⟨a, b, c, d, r, ?_, e, f, i, j, k, l, ?_⟩
  · intro x hx
    rcases g with g | ⟨y, hy, b1, -⟩
    · rw [g] at hx; cases hx
    · rw [hy] at hx; cases hx; exact b1
  · intro x hx
    rcases g with g | ⟨y, hy, -, b2⟩
    · rw [g] at hx; cases hx
    · rw [hy] at hx; cases hx; exact b2

theorem busy_queues : QueueInv busy :=
  queueInv_of (by decide +kernel) (fun _ h => nomatch h)
    (.inr ⟨_, rfl, aRecord_bounded, by decide +kernel, by decide +kernel⟩)

theorem busy_stores : StoreInv busy :=
  storeInv_of ⟨by decide +kernel, by decide +kernel⟩ ⟨by decide +kernel, by decide +kernel⟩ (by decide +kernel) (by decide +kernel)
    (.inr (.inr ⟨rfl, rfl⟩)) 7 aRecord 20 (by decide +kernel) (by decide +kernel) aRecord_bounded

theorem blocksReset_of_held (h : ResetHold) : BlocksReset (resetHeld h) :=
  ⟨rfl, rfl, rfl, rfl, rfl, rfl, ⟨rfl, rfl, rfl, rfl, rfl, rfl⟩,
    (by decide : ∀ x : Fin 4, (tripUnitReset (Vector.replicate 4 .high) powerOnOnly).tin[x].filtered = .high ∧
      (tripUnitReset (Vector.replicate 4 .high) powerOnOnly).tin[x].stable = 0),
    rfl, rfl, fun l => by cases l <;> rfl, rfl, rfl, rfl⟩

theorem witness_StepRunsFrontCommand : busy.pending = .sweep (pairSweep 100 100 2000 2) :: [] := rfl

/-- Nothing due; the last 0.1 ms of a second; a capture at its 199th step; at the tenth tick a gather timer at 49 and an input one step short of min_duration (10 ms
by default); a link at its timeout in LOCKING, LOCKED and LOST; a reset held. -/
theorem witness_IdleStepMovesTimersOnly :
    stopped.pending = [] ∧ stopped.inReset = false ∧ (stopped.act.linkEntry .A).timeout = 10 ∧
    (let s := { stopped with time := { tenths := 0, secondTenths := 9999 } }
     9999 ≤ s.time.secondTenths ∧ s.pending = [] ∧ s.inReset = false) ∧
    (capturingSince 199 5).pending = [] ∧ (capturingSince 199 5).cb.state = .triggered ∧ 200 ≤ 199 + 1 ∧
    (let g : Gathering := { record := aRecord, timer := some 49, bound := false }
     let s := { stopped with
       rs := { stopped.rs with gathering := some g }
       tu := { stopped.tu with tin := stopped.tu.tin.set 2 { raw := .low, filtered := .high, stable := 9 } }
       time := { tenths := 9, secondTenths := 0 } }
     9 ≤ s.time.tenths ∧ s.rs.gathering = some g ∧ 50 ≤ 49 + 1 ∧ s.tu.tin[2].raw ≠ s.tu.tin[2].filtered ∧
     (s.act.line.tin[2]).minDuration ≤ s.tu.tin[2].stable + 1 ∧ s.inReset = false) ∧
    (∀ st ∈ [LinkState.locking, .locked, .lost],
      let s := { running with linkA := { linkReset with state := st, timer := some 9 } }
      s.inReset = false ∧ s.pending = [] ∧ s.linkA.timer = some 9 ∧ 10 ≤ 9 + 1) ∧
    (resetHeld ⟨true, false⟩).pending = [] ∧ (resetHeld ⟨true, false⟩).inReset = true := by decide +kernel

theorem witness_FramesDecodeBack :
    ∃ i l f, Instr.wellFormed i = true ∧ encodeFrame i = some (l, f) :=
  ⟨.sweep (pairSweep 1 2 3 0), _, _, by decide, rfl⟩

/-- A Report, a Record with a summary and a stored place, and a Reply, each within its ranges. -/
theorem witness_SentFramesAreLaidOut :
    (let fits (m : MotorReading) : Prop :=
       m.iqLimited.natAbs ≤ 32767 ∧ m.idMeas.natAbs ≤ 32767 ∧ m.iqMeas.natAbs ≤ 32767 ∧ m.udc ≤ 65535 ∧ m.temp.natAbs ≤ 32767
     let r := busy.report
     fits r.a ∧ fits r.b ∧ r.band ≤ 7 ∧ r.waiting ≤ 16 ∧ r.lastPeriod ≤ 1048575 ∧ r.limitA ≤ 32767 ∧ r.limitB ≤ 32767 ∧
     r.h ≤ 32767 ∧ fits aRecord.a ∧ fits aRecord.b ∧ aRecord.band ≤ 7 ∧ aRecord.lastPeriod ≤ 1048575 ∧
     aRecord.worstRms ≤ 32767 ∧ aRecord.seconds ≤ 4294967295) ∧
    aRecord.bounded ∧ (∀ x ∈ [((4 : Cause), 65535)], x.2 ≤ 65535) ∧ (63 ≤ 63 ∧ 4294967295 ≤ 4294967295) ∧
    (∀ x, some (capturing 5).cb.summary = some x →
      x.maxIqA ≤ 32767 ∧ x.maxIqB ≤ 32767 ∧ x.minUdcA ≤ 65535 ∧ x.minUdcB ≤ 65535 ∧ x.valid ≤ 256) ∧
    (-32767 : Int).natAbs ≤ 32767 ∧ busy.act.vibration.scalars.g ≤ 8 ∧ (List.replicate 253 (0 : Word)).length ≤ 253 :=
  ⟨by decide +kernel, aRecord_bounded, by decide, by decide, fun _ h => by cases h; decide +kernel, by decide, by decide +kernel,
    List.length_replicate.le⟩

theorem witness_ResetStateStandsTrippedWithInvariants : ∃ s, BlocksReset s := ⟨_, blocksReset_of_held ⟨true, false⟩⟩

/-- Every pair of kinds held; the line held without supply. -/
theorem witness_ResetsBeginAndRelease :
    Slots.Ok 64 busy.rs.array ∧ busy.supply = true ∧ (after .lossOfSupply busy).supply = false ∧
    (∀ h, BlocksReset (resetHeld h) ∧ (resetHeld h).supply = true ∧ (resetHeld h).held = h) ∧
    busy.held.powerOn = false ∧ busy.held.line = false ∧
    (after .lineReset (after .lossOfSupply busy)).held.line = true ∧ (after .lineReset (after .lossOfSupply busy)).supply = false :=
  ⟨busy_stores.array, rfl, rfl, fun h => ⟨blocksReset_of_held h, rfl, rfl⟩, rfl, rfl, by decide +kernel, by decide +kernel⟩

theorem witness_NothingActsWhileReset :
    (resetHeld ⟨true, false⟩).inReset = true ∧ (resetHeld ⟨false, true⟩).inReset = true ∧
    (after .lossOfSupply busy).inReset = true := by decide +kernel

theorem witness_StepKeepsHeldInvariant :
    let s := { resetHeld ⟨true, true⟩ with pending := [.resetRelease .line] }
    HeldInv s ∧ s.inReset = true ∧ ∃ t, step s = .next t ∧ t.inReset = true := by
  refine ⟨fun _ => ?_, rfl, _, rfl, by decide +kernel⟩
  exact ⟨rfl, rfl, rfl, rfl, rfl, rfl, by decide +kernel, by decide +kernel, rfl, rfl, fun l => by cases l <;> rfl, rfl, rfl, rfl⟩

theorem witness_StepKeepsDriveInvariant : DriveInv busy ∧ ∃ t, step busy = .next t := ⟨busy_drive, _, rfl⟩

theorem witness_StepKeepsConditionInvariant :
    HeldInv busy ∧ DriveInv busy ∧ BankInv busy ∧ ConditionInv busy ∧ ∃ t, step busy = .next t :=
  ⟨busy_held, busy_drive, busy_banks, busy_condition, _, rfl⟩

theorem witness_StepKeepsVibrationInvariant : VibrationInv busy ∧ ∃ t, step busy = .next t := ⟨busy_vibration, _, rfl⟩

theorem witness_StepKeepsBankInvariant : BankInv busy ∧ ∃ t, step busy = .next t := ⟨busy_banks, _, rfl⟩

theorem witness_StepKeepsRangeInvariant : BankInv busy ∧ VibrationInv busy ∧ RangeInv busy ∧ ∃ t, step busy = .next t :=
  ⟨busy_banks, busy_vibration, busy_ranges, _, rfl⟩

theorem witness_StepKeepsQueueInvariant : BankInv busy ∧ QueueInv busy ∧ ∃ t, step busy = .next t :=
  ⟨busy_banks, busy_queues, _, rfl⟩

theorem witness_StepKeepsStoreInvariant : QueueInv busy ∧ StoreInv busy ∧ ∃ t, step busy = .next t :=
  ⟨busy_queues, busy_stores, _, rfl⟩

/-- Both ways: the drive stays TRIPPED at a timer's step, and leaves it at an ACKNOWLEDGE. -/
theorem witness_TrippedUntilAcknowledged :
    talking.tu.drive = .tripped ∧
    (∃ t, step { talking with pending := [.acknowledge 1] } = .next t ∧ t.tu.drive = .stopped) ∧
    (∃ t, step { talking with pending := [.markerTimerStep] } = .next t ∧ t.tu.drive = .tripped) :=
  ⟨rfl, ⟨_, rfl, by decide +kernel⟩, ⟨_, rfl, by decide +kernel⟩⟩

theorem witness_RunOnlyByStartEdge :
    stopped.running = false ∧
    ∃ t, step { stopped with pending := [.demand (plainDemand true)] } = .next t ∧ t.running = true :=
  ⟨by decide +kernel, _, rfl, by decide +kernel⟩

theorem witness_BanksChangeOnlyWhereSwitchedOrWritten :
    ∃ t, step { running with pending := [.writeEntry 1 4 9 (List.replicate 24 7)] } = .next t ∧
      t.me.standby.line.nPost = 7 ∧ running.me.standby.line.nPost = 128 :=
  ⟨_, rfl, by decide +kernel, by decide +kernel⟩

theorem frozen_queues : QueueInv frozenCapture :=
  queueInv_of (by decide +kernel) (fun _ h => nomatch h) (.inl rfl)

theorem witness_FrozenCaptureIsKept :
    QueueInv { frozenCapture with pending := [.sample .A plainSample] } ∧ frozenCapture.cb.state = .frozen ∧
    ∃ t, step { frozenCapture with pending := [.sample .A plainSample] } = .next t ∧ t.cb.periods = 1 :=
  ⟨queueInv_of (by decide +kernel) (fun _ h => nomatch h) (.inl rfl), rfl, _, rfl, by decide +kernel⟩

/-- RUN with every cause at Notice, STALL active and the marker where its next edge is accepted. -/
def stalling : State :=
  let s := setActions running (allAct .notice false false)
  { s with
    tu := { s.tu with active := CauseSet.insert 0 .stall, e := .notice }
    mt := { state := .tracking, counter := 2000, lastPeriod := 25000, silence := 0 } }

/-- A Sample that raises MODULE and trips the drive; an edge that clears STALL; the kinds enabled; a high queue with room and a full one. -/
theorem witness_StepAnnouncesWhatItMoves :
    (∃ t, step { running with pending := [.sample .A { plainSample with flags := 1 }] } = .next t ∧ t.tu.drive = .tripped ∧
      running.tu.drive = .run ∧ running.me.mask.getLsbD 3 = true ∧ running.me.mask.getLsbD 1 = true ∧
      t.act.action[Cause.module .A] = running.act.action[Cause.module .A] ∧ running.acting (.module .A) ≠ .ignore ∧
      running.tu.active.has (.module .A) = false ∧ t.tu.active.has (.module .A) = true ∧ t.me.high.length < 8) ∧
    (∃ t, step { stalling with pending := [.activeEdge .rising] } = .next t ∧ stalling.me.mask.getLsbD 2 = true ∧
      t.act.action[Cause.stall] = stalling.act.action[Cause.stall] ∧ stalling.acting .stall ≠ .ignore ∧
      stalling.tu.active.has .stall = true ∧ t.tu.active.has .stall = false) ∧
    (∃ t, step { running with
        me := { running.me with high := List.replicate 8 restartNotice }
        pending := [.sample .A { plainSample with flags := 1 }] } = .next t ∧
      t.tu.drive = .tripped ∧ 8 ≤ t.me.high.length) :=
  ⟨⟨_, rfl, by decide +kernel⟩, ⟨_, rfl, by decide +kernel⟩, ⟨_, rfl, by decide +kernel⟩⟩

/-! ## Witnesses: current regulation and torque limiting -/

theorem witness_GatesNeedRunningDrive :
    (resetHeld ⟨true, false⟩).inReset = true ∧ (({ running with linkA := { linkReset with state := .down } }).link .A).state = .down ∧
    running.inReset = false ∧ (running.link .A).state = .locked ∧
    (∀ st ∈ [LinkState.searching, .locking, .lost], ∀ m ∈ [Motor.A, .B],
      let s := running.setLink (powerLink m) { linkReset with state := st }
      s.inReset = false ∧ (s.link (powerLink m)).state = st) := by decide +kernel

/-- With and without a calibration, and between the two limits of the DC link. -/
theorem witness_TakenSampleMeasuresAndChecks :
    running.inReset = false ∧ (running.link (powerLink .A)).state = .locked ∧ (running.link (powerLink .B)).state = .locked ∧
    (running.reg .A).calibration = none ∧ (running.reg .B).calibration = none := by decide +kernel

/-- Gates on in RUN; gates off in STOPPED, and at a Sample that trips. -/
theorem witness_GatedSampleRegulates :
    (∃ t x, exec (.sample .A plainSample) running = .next t ∧ t.sent = .modulation .A x :: running.sent ∧ x.gate = true) ∧
    (∃ t x, exec (.sample .A plainSample) stopped = .next t ∧ t.sent = .modulation .A x :: stopped.sent ∧ x.gate = false) ∧
    (∃ t x, exec (.sample .A { plainSample with flags := 1 }) running = .next t ∧ t.sent = .modulation .A x :: running.sent ∧
      x.gate = false ∧ t.tu.drive = .tripped) := by
  refine ⟨⟨_, { seq := 77, gate := true, va := 0, vb := 0 }, exec_after _ _, by decide +kernel, rfl⟩,
    ⟨_, gatesOff 77, exec_after _ _, by decide +kernel, rfl⟩, ⟨_, gatesOff 77, exec_after _ _, by decide +kernel, rfl, by decide +kernel⟩⟩

/-- STOPPED with a calibration of motor A that has counted `n` Samples with the sums given. -/
def calibrating (n : Nat) (sumA : Int) : State :=
  { stopped with regA := { regulatorReset with calibration := some { count := n, sumA := sumA, sumB := 0 } } }

/-- Flag set; the 255th Sample; the 256th at off_lim exactly and one above it (off_lim is 512 by default). -/
theorem witness_CalibrationCompletesAt256 :
    (calibrating 254 0).inReset = false ∧ ((calibrating 254 0).link (powerLink .A)).state = .locked ∧
    ((calibrating 254 0).reg .A).calibration = some { count := 254, sumA := 0, sumB := 0 } ∧
    ({ plainSample with flags := 1 }).flags.getLsbD 0 = true ∧ plainSample.flags.getLsbD 0 = false ∧
    ((calibrating 254 0).act.motorEntry .A).offLim = 512 ∧ (calibrating 254 0).me.mask.getLsbD 8 = true ∧
    ((130072 : Int) + signed plainSample.ia + 128) / 256 = 512 ∧ ((130200 : Int) + signed plainSample.ia + 128) / 256 = 513 := by
  decide +kernel

/-- DISARMED, FROZEN, ARMED and staying ARMED, ARMED and triggered by the Sample's own raise with N_post 0, 1 and 128, TRIGGERED with one
and with two snapshots to come, with a bound record and with none; at a freeze in the raise and at the snapshot, CAPTURE_FROZEN enabled
and the cause logged. -/
theorem witness_PeriodReferenceMovesHoldAndRing :
    running.inReset = false ∧ running.linkA.state = .locked ∧ running.cb.state = .armed ∧
    (after (.sample .A plainSample) running).cb.state = .armed ∧ frozenCapture.cb.state = .frozen ∧
    ({ running with cb := captureReset }).cb.state = .disarmed ∧
    (let f := { plainSample with flags := 1 }
     (after (.sample .A f) (setNPost running 0)).cb.state = .frozen ∧ (after (.sample .A f) (setNPost running 1)).cb.state = .frozen ∧
     (after (.sample .A f) running).cb.state = .triggered) ∧
    (capturing 1).cb.state = .triggered ∧ (capturing 1).cb.remaining = 1 ∧ (capturing 2).cb.remaining = 2 ∧
    (capturing 1).rs.gathering = some { record := aRecord, timer := none, bound := true } ∧ frozenCapture.rs.gathering = none ∧
    running.me.mask.getLsbD 5 = true ∧
    (∀ n ∈ [0, 1], (after (.sample .A { plainSample with flags := 1 }) (setNPost running n)).cb.causes = [.cause 6]) ∧
    (running.act.action[(6 : Cause)]).capture = true ∧ (running.act.action[(6 : Cause)]).log = true := by decide +kernel

/-- Both sides of the halves: 16384 and 16385; a present cause at Derate and none; the latch set and clear; sums at and above the
total. -/
theorem witness_LimitsReduceAndShare :
    (∃ c, (busy.tu.active.has c = true ∨ busy.tu.latched.has c = true) ∧
      (setActions busy (allAct .derate false false)).acting c = .derate) ∧
    (∀ c, running.tu.active.has c = true ∨ running.tu.latched.has c = true → running.acting c ≠ .derate) ∧
    running.tl.latch = false ∧ ({ running with tl := { running.tl with latch := true } }).tl.latch = true ∧
    BankInv busy ∧ (busy.reg .A).ft ≤ 32767 ∧
    (16384 * 32767 + 16384) / 32768 = 16384 ∧ (16385 * 32767 + 16384) / 32768 = 16384 ∧
    (5 : Int).natAbs + (-4 : Int).natAbs ≤ 9 ∧ 8 < (5 : Int).natAbs + (-4 : Int).natAbs :=
  ⟨⟨.vibAlert, by decide +kernel, by decide +kernel⟩, by decide +kernel, rfl, rfl, busy_banks, by decide +kernel, by decide, by decide,
    by decide, by decide⟩

theorem witness_DemandStoresLimitedDemands : running.inReset = false ∧ running.linkC.state = .locked := by decide

/-- Every table with its switch pending and not: VIBRATION with channels that leave, stay and enter, G changed and kept, a wire check in
flight; LINE with the marker entry changed in its edge, its period and not at all, every sense, a relock field that differs; a capture
running. -/
theorem witness_TableSwitchTakesEffect :
    (∀ tb ∈ allTables, busy.me.pendingSwitch.get tb = false ∧
      ({ busy with me := { busy.me with pendingSwitch := busy.me.pendingSwitch.set true tb } }).me.pendingSwitch.get tb = true) ∧
    busy.me.mask.getLsbD 4 = true ∧ busy.me.mask.getLsbD 9 = true ∧ busy.scu.wire.isSome = true ∧ busy.cb.state = .triggered ∧
    busy.tu.active.has .vibAlert = decide (1 ≤ busy.vm.v.val) ∧ busy.tu.active.has .vibAlarm = decide (2 ≤ busy.vm.v.val) ∧
    busy.tu.active.has .vibTrip = decide (3 ≤ busy.vm.v.val) ∧
    (let other := { busy.me.standby with
       vibration := { busy.act.vibration with
         channels := (busy.act.vibration.channels.set 1 channelEntryDefault).set 2 { channelEntryDefault with enable := true } }
       line := { busy.act.line with
         marker := { busy.act.line.marker with edge := .falling, maxPeriod := 100 }
         tin := busy.act.line.tin.set 2 { sense := .falling, minDuration := 0 }
         linkA := { busy.act.line.linkA with relock := false } } }
     let s := { busy with me := { busy.me with
       standby := other, pendingSwitch := { busy.me.pendingSwitch with vibration := true, line := true } } }
     (s.switchTable .vibration).scu.wire = none ∧ (s.switchTable .vibration).vm.v = 1 ∧
     (s.switchTable .line).mt.state = .acquiring ∧ (s.switchTable .line).linkA.relock = false) := by decide +kernel

theorem witness_DemandHandsOneReport :
    running.inReset = false ∧ running.linkC.state = .locked ∧ running.up.sending = .idle ∧
    ({ running with up := { sending := .management (.notice restartNotice), waiting := none } }).up.sending ≠ .idle ∧
    (∀ tb, running.me.pendingSwitch.get tb = false) :=
  ⟨rfl, rfl, rfl, by decide, fun tb => by cases tb <;> rfl⟩

/-- RUN with the two q currents given, the runs given, imb_thr 3000, imb_min 8000, imb_count 4 and stall_time 120,000. -/
def pulling (a b : Int) (up down : Nat) (active : Bool) : State :=
  let s := setTorque watching { watching.me.active.torque.scalars with
    imbThr := 3000, imbMin := 8000, imbCount := 4, stallTime := 120000 }
  { s with
    regA := { s.regA with iqMeas := a }
    regB := { s.regB with iqMeas := b }
    tl := { s.tl with upRun := up, downRun := down }
    mt := { s.mt with silence := 120000 }
    tu := { s.tu with
      active := if active then CauseSet.insert 0 .imbalance else 0
      e := if active then .notice else .ignore } }

/-- A pull below and at the count, in both directions, and a clamped demand at the stall time. -/
theorem witness_DemandWatches :
    running.inReset = false ∧ running.linkC.state = .locked ∧ running.me.pendingSwitch.torque = false ∧
    running.tu.active.has .overload = running.tl.latch ∧
    (∀ tb, (pulling 9500 5000 2 0 false).me.pendingSwitch.get tb = false) ∧
    (∀ s ∈ [pulling 9500 5000 2 0 false, pulling 9500 5000 3 0 false, pulling 7500 7000 3 0 false,
        pulling 7500 7000 0 2 true, pulling 7500 7000 0 3 true, pulling 9500 5000 0 3 true],
      s.inReset = false ∧ s.linkC.state = .locked ∧ s.running = true ∧
      exec (.demand { plainDemand true with a := ⟨0, 5000, 0, 0⟩ }) s =
        .next (after (.demand { plainDemand true with a := ⟨0, 5000, 0, 0⟩ }) s) ∧
      (after (.demand { plainDemand true with a := ⟨0, 5000, 0, 0⟩ }) s).running = true) := by
  refine ⟨rfl, rfl, rfl, by decide +kernel, fun tb => by cases tb <;> rfl, ?_⟩
  have h : ∀ s ∈ [pulling 9500 5000 2 0 false, pulling 9500 5000 3 0 false, pulling 7500 7000 3 0 false,
      pulling 7500 7000 0 2 true, pulling 7500 7000 0 3 true, pulling 9500 5000 0 3 true],
      s.inReset = false ∧ s.linkC.state = .locked ∧ s.running = true ∧
      (after (.demand { plainDemand true with a := ⟨0, 5000, 0, 0⟩ }) s).running = true := by decide +kernel
  exact fun s hs => ⟨(h s hs).1, (h s hs).2.1, (h s hs).2.2.1, exec_after _ _, (h s hs).2.2.2⟩

/-- Clear flags, a held flag, an allowed edge, a refused edge in STOPPED and in TRIPPED, an edge in RUN; a Demand with an allowed edge and one
with a clear flag, the state `w` after its first five stages written as the statement writes it. -/
theorem witness_StartIsJudgedAtTheEdge :
    stopped.running = false ∧ running.running = true ∧ running.effective ≠ .trip ∧ running.tl.prevStart = true ∧
    stopped.tl.prevStart = false ∧ stopped.tu.drive = .stopped ∧ stopped.startAllowed = true ∧
    ({ stopped with linkA := linkReset }).startAllowed = false ∧ talking.tu.drive = .tripped ∧ talking.tl.prevStart = false ∧
    ({ running with tl := limiterReset }).running = true ∧ ({ running with tl := limiterReset }).tl.prevStart = false ∧
    stopped.inReset = false ∧ stopped.linkC.state = .locked ∧ (plainDemand true).start = true ∧ (plainDemand false).start = false ∧
    (let f := plainDemand true
     let u := State.updateOverload (State.switchTables
       { stopped.heardC with
         me := { stopped.me with demandCount := stopped.me.demandCount + 1 }, tl := { stopped.tl with lastSeq := f.seq } })
     let w := ((u.storeDemands f).watchImbalance).watchStall (u.anyClamped f)
     w.tu.drive = .stopped ∧ w.regA.calibrated = true ∧ w.regB.calibrated = true ∧ w.regA.calibration = none ∧
     w.regB.calibration = none ∧ w.linkA.state = .locked ∧ w.linkB.state = .locked ∧ w.tu.e ≠ .hold ∧ w.tu.e ≠ .trip) := by
  decide +kernel

/-! ## Witnesses: marker, vibration and sensors -/

/-- RUN with the marker's counter as given, in Lost or Tracking. -/
def marked (state : MarkerState) (counter silence : Nat) : State :=
  { running with mt := { state := state, counter := counter, lastPeriod := 25000, silence := silence } }

/-- MK at either level; an edge of the other kind, a glitch just below min_period, an edge at it; a step just before the expiry and at it; the silence
time one step short of max_period in Lost. Valid banks; out of Tracking; in Tracking with last periods on both sides of the first and the
last thresholds. -/
theorem witness_MarkerTakesEdgesAndStepsAndPlacesBands :
    ((marked .tracking 1999 0).inReset = false ∧ (marked .tracking 2000 0).pins.marker = .low ∧ Level.low ≠ .high ∧ Edge.falling ≠ running.act.line.marker.edge ∧
      Edge.rising = running.act.line.marker.edge ∧ (marked .tracking 1999 0).mt.counter < running.act.line.marker.minPeriod ∧
      running.act.line.marker.minPeriod ≤ (marked .tracking 2000 0).mt.counter ∧ DriveInv (marked .tracking 2000 0) ∧
      running.act.line.marker.maxPeriod = 300000 ∧ 299998 + 1 < 300000 ∧ 300000 ≤ 299999 + 1 ∧
      (marked .lost 0 299999).mt.silence + 1 = 300000 ∧ (marked .lost 0 299999).running = true) ∧
    (running.act.offending .torque = none ∧ running.act.offending .vibration = none ∧ running.mt.state ≠ .tracking ∧
      (let s (n : Nat) := { running with mt := { state := .tracking, counter := 0, lastPeriod := n, silence := 0 } }
       (s 240000).torqueBand = 0 ∧ (s 239999).torqueBand = 1 ∧ (s 20000).torqueBand = 6 ∧ (s 19999).torqueBand = 7 ∧
       (s 120000).vibrationBand = 0 ∧ (s 119999).vibrationBand = 1 ∧ (s 20000).vibrationBand = 2 ∧
       (s 19999).vibrationBand = 3)) :=
  ⟨⟨rfl, rfl, by decide, by decide, rfl, by decide +kernel, by decide +kernel, driveInv_of (by decide +kernel), rfl, by decide, by decide, rfl,
    by decide +kernel⟩, by decide +kernel⟩

theorem witness_SweepIsAnswered :
    (resetHeld ⟨true, false⟩).inReset = true ∧ watching.inReset = false ∧ watching.linkS.state = .locked ∧
    SweepFrame.lengthOk { pairSweep 0 0 0 0 with values := [] } = false ∧ (pairSweep 0 0 0 0).lengthOk = true ∧
    (pairSweep 0 0 0 0).group.toNat = watching.act.vibration.scalars.g ∧
    SweepFrame.lengthOk { pairSweep 0 0 0 0 with group := 4, values := [0, 0, 0, 0] } = true ∧
    (4#4).toNat ≠ watching.act.vibration.scalars.g ∧
    ({ watching with linkS := linkReset }).linkS.state ≠ .locked ∧ ({ watching with linkS := linkReset }).linkS.state ≠ .down := by
  decide +kernel

/-- A Sweep taken, one Sweep before the window closes and at its close, in service and out of it, evaluating and held; judged for flatness
with the marker Tracking in band 3, not judged in Lost; a floor above a mean square of 0 and one at it. -/
theorem witness_TakenSweepFiltersAndCloses :
    watching.inReset = false ∧ watching.linkS.state = .locked ∧ (pairSweep 0 0 0 0).lengthOk = true ∧
    (pairSweep 0 0 0 0).group.toNat = watching.act.vibration.scalars.g ∧
    14 + 1 < 2 ^ watching.act.vibration.scalars.w ∧ 2 ^ watching.act.vibration.scalars.w ≤ 15 + 1 ∧
    watching.inService 0 = true ∧ watching.inService 2 = false ∧ watching.evaluating 0 = true ∧ busy.evaluating 1 = false ∧
    (let s := { watching with
       mt := { state := .tracking, counter := 0, lastPeriod := 19999, silence := 0 }, vm := { watching.vm with window := 15 } }
     s.inReset = false ∧ s.mt.state = .tracking ∧ 1 ≤ s.vibrationBand ∧ (s.vm.channels[(0 : Fin 8)]).held = false ∧
     s.scu.testing 0 = false ∧ (after (.sweep (pairSweep 0 0 2000 0)) s).scu.refFail = false) ∧
    watching.mt.state ≠ .tracking ∧ (0 : Nat) < 1 ∧ (0 : Nat) ≤ 0 := by
  decide +kernel

/-- Thresholds in order; every case of the two runs at its boundary; no channel and two channels in service; a judged window below flat_floor
with the flag set and the run at flat_count, below it, and one at flat_floor. -/
theorem witness_ChannelsAreJudgedByRuns :
    ((250 : Nat) ≤ 400 ∧ (400 : Nat) ≤ 600) ∧
    ({ channelReset with grade := some 1 }).grade = some (1 : Grade) ∧
    ((1 : Grade) < 2 ∧ 3 ≤ 2 + 1 ∧ 1 + 1 < 3) ∧ ((1 : Grade) ≤ 1 ∧ (1 : Grade) ≤ 2) ∧
    ((0 : Grade) < 1 ∧ 2 ≤ 1 + 1 ∧ 0 + 1 < 2) ∧ ((99 : Nat) < 100 ∧ (100 : Nat) ≤ 100) ∧
    (∀ c, running.inService c = false) ∧ (∃ c, busy.inService c = true) ∧ busy.worst = some 0 ∧ (1 : Fin 8) ≠ 0 ∧
    busy.inService 1 = true ∧
    (let k : ChannelCheck := { flat := true, flatRun := 3, wireFault := false }
     k.flat = true ∧ 3 ≤ k.flatRun ∧ k.flatRun < 4) := by decide +kernel

/-- The limits are 1000 and 3000: inside at both, outside beside both; runs at 2 and at 3. -/
theorem witness_ReferenceFailsAfterFour :
    watching.inReset = false ∧ watching.linkS.state = .locked ∧
    (∀ x ∈ [999, 1000, 3000, 3001],
      (pairSweep 0 0 x 0).lengthOk = true ∧ (pairSweep 0 0 x 0).group.toNat = watching.act.vibration.scalars.g ∧
      (pairSweep 0 0 x 0).reference.toInt = x) ∧
    watching.act.vibration.scalars.refLo = 1000 ∧ watching.act.vibration.scalars.refHi = 3000 ∧
    watching.scu.refFail = false ∧ ({ sensorReset with refFail := true, inRun := 3 }).refFail = true ∧
    watching.me.mask.getLsbD 9 = true ∧ busy.scu.wire.isSome = true ∧ busy.scu.refFail = false ∧
    3 ≤ ({ busy.scu with outRun := 3 }).outRun := by decide +kernel

/-- Both phases, one Sweep short of N_w and at it, echo clear and set, a shift at min_shift × N_w and one below it, ref-fail clear. -/
theorem witness_WireCheckCountsAndJudges :
    busy.inReset = false ∧ busy.linkS.state = .locked ∧ (pairSweep 0 100 2000 2).lengthOk = true ∧
    (pairSweep 0 100 2000 2).group.toNat = busy.act.vibration.scalars.g ∧ busy.scu.wire.isSome = true ∧
    (after (.sweep (pairSweep 0 100 2000 2)) busy).scu.refFail = false ∧
    (pairSweep 0 100 2000 2).testEcho.getLsbD 1 = true ∧ (pairSweep 0 100 2000 0).testEcho.getLsbD 1 = false ∧
    busy.me.mask.getLsbD 9 = true ∧ 62 + 1 < 64 ∧ 64 ≤ 63 + 1 ∧ 100 * 64 ≤ ((6300 : Int) + 100 - 0).natAbs ∧ ((6299 : Int) + 100 - 0).natAbs < 100 * 64 := by
  decide +kernel

/-! ## Witnesses: causes, drive state, trip inputs -/

/-- RUN with every cause at Notice, captured and logged. -/
def noticing : State := setActions running (allAct .notice true true)

/-- A level cause active already; an event cause; actions at Trip, at Hold and below in RUN, with and without an entry to TRIPPED. -/
theorem witness_RaiseEntersTheSets :
    DriveInv busy ∧ busy.isEvent .vibAlert = false ∧ busy.tu.active.has .vibAlert = true ∧
    DriveInv running ∧ running.isEvent .sensorWire = true ∧ running.tu.active.has .overload = false ∧
    running.acting .overload = .trip ∧ (running.raise .overload).tu.drive = .tripped ∧
    noticing.acting .demandLost = .hold ∧ DriveInv noticing ∧ noticing.acting .overload = .notice ∧
    (noticing.raise .overload).tu.drive = .run :=
  ⟨busy_drive, by decide +kernel, by decide +kernel, driveInv_of (by decide +kernel), by decide +kernel, by decide +kernel,
    by decide +kernel, by decide +kernel, by decide +kernel, driveInv_of (by decide +kernel), by decide +kernel, by decide +kernel⟩

/-- RUN with every cause at Notice and IMBALANCE, STALL and MARKER_LOST active: a trip clears the three. -/
def pressed : State :=
  let s := setActions running (allAct .notice true true)
  { s with tu := { s.tu with
      active := ((CauseSet.insert 0 .imbalance).insert .stall).insert .markerLost, e := .notice } }

/-- HOLD by DEMAND_LOST alone: its clear returns the drive to RUN. -/
def holding : State :=
  { noticing with tu := { noticing.tu with active := CauseSet.insert 0 .demandLost, e := .hold, drive := .hold } }

/-- The states the raises and clears below begin from: the capture ARMED (N_post 128 and 0), TRIGGERED with three and four causes, FROZEN and
DISARMED; capture and log on and off; a record gathering, its list at 7 and at 8, and none. -/
def raisable : List State :=
  [noticing, setNPost noticing 0, setActions running (allAct .ignore true true), setActions running (allAct .notice false false),
    { noticing with cb := captureReset }, { noticing with cb := frozenCapture.cb },
    { noticing with cb := { (capturing 5).cb with causes := List.replicate 3 .request } },
    { noticing with cb := { (capturing 5).cb with causes := List.replicate 4 .request } },
    { noticing with rs := { noticing.rs with
        gathering := some { record := { aRecord with causes := List.replicate 7 (4, 0) }, timer := some 0, bound := false } } },
    { noticing with rs := { noticing.rs with
        gathering := some { record := { aRecord with causes := List.replicate 8 (4, 0) }, timer := some 0, bound := false } } },
    pressed, holding]

/-- At Ignore and at Notice, where the drive does not move; OVERCURRENT of motor A, which trips RUN and clears the run-only causes, and
DEMAND_LOST, which holds it; a clear in RUN and one out of HOLD, and of a cause that is not active. -/
theorem witness_RaiseAndClearAnnounceTriggerAndLog :
    (∀ s ∈ raisable, DriveInv s ∧ s.tu.active.has .overload = false ∧ s.tu.active.has (.overcurrent .A) = false ∧
      (s.raise (.overcurrent .A)).tu.drive = .tripped) ∧
    (setActions running (allAct .ignore true true)).acting .overload = .ignore ∧ noticing.acting .overload = .notice ∧
    (noticing.raise .overload).tu.drive = .run ∧ (noticing.raise .demandLost).tu.drive = .hold ∧
    pressed.running = true ∧ pressed.tu.active.has .stall = true ∧ (pressed.clearCause .stall).tu.drive = .run ∧
    holding.tu.active.has .demandLost = true ∧ (holding.clearCause .demandLost).tu.drive = .run := by
  refine ⟨?_, by decide +kernel⟩
  have h : ∀ s ∈ raisable,
      (s.tu.e = s.effective ∧ (s.tu.e = .trip → s.tu.drive = .tripped) ∧
      (s.tu.drive = .run → s.tu.e.atHoldOrAbove = false) ∧ (s.tu.drive = .hold → s.tu.e = .hold) ∧
      (s.running = true →
        s.powerLinksLocked = true ∧ s.regA.calibrated = true ∧ s.regB.calibrated = true ∧ s.calibrating = false) ∧
      s.tu.tout = (decide (s.tu.drive = .tripped) || s.inReset) ∧ (s.inReset = true → s.tu.drive = .tripped) ∧
      (∀ c, s.isEvent c = true → s.tu.active.has c = false) ∧
      (s.running = false → s.tu.active.has .imbalance = false ∧ s.tu.active.has .stall = false ∧
        s.tu.active.has .markerLost = false ∧ s.tl.upRun = 0 ∧ s.tl.downRun = 0)) ∧
      s.tu.active.has .overload = false ∧ s.tu.active.has (.overcurrent .A) = false ∧
      (s.raise (.overcurrent .A)).tu.drive = .tripped := by decide +kernel
  exact fun s hs => ⟨driveInv_of (h s hs).1, (h s hs).2⟩

/-- A drive state with VIB_ALERT active at the action given. -/
def standing (d : DriveState) (a : Action) : State :=
  let s := setActions busy (allAct a false false)
  { s with tu := { s.tu with drive := d } }

theorem witness_DriveIsJudgedAgainstE :
    (∀ d ∈ [DriveState.stopped, .run, .hold, .tripped], ∀ a ∈ [Action.notice, .derate, .hold, .trip],
      (standing d a).tu.drive = d ∧ (standing d a).effective = a) := by decide +kernel

/-- TIN2 of a part in RUN with the sense and min_duration given, at the levels given. -/
def tinAt (sense : Sense) (minDuration : Nat) (raw filtered : Level) : State :=
  let l := { running.me.active.line with
    tin := running.me.active.line.tin.set 2 { sense := sense, minDuration := minDuration } }
  { running with
    me := { running.me with active := { running.me.active with line := l } }
    tu := { running.tu with tin := running.tu.tin.set 2 { raw := raw, filtered := filtered, stable := 5 } } }

/-- The same level; a level back at the filtered one; a change with a min_duration of 1 and of 0; levels that agree and that differ, with the
next step (the stable time is 5) at min_duration and below it; every sense. -/
theorem witness_TripInputsAreFiltered :
    (∀ sense ∈ [Sense.levelLow, .levelHigh, .falling, .rising, .bothEdges],
      (tinAt sense 1 .high .high).inReset = false ∧ (tinAt sense 1 .high .high).act.line.tin[2].sense = sense) ∧
    (tinAt .falling 1 .high .high).tu.tin[2].raw = .high ∧ (tinAt .falling 1 .high .low).tu.tin[2].filtered = .low ∧
    (tinAt .falling 1 .high .high).act.line.tin[2].minDuration ≠ 0 ∧ (tinAt .falling 0 .high .high).act.line.tin[2].minDuration = 0 ∧
    Level.low ≠ .high ∧ (tinAt .falling 6 .low .high).tu.tin[2].raw ≠ (tinAt .falling 6 .low .high).tu.tin[2].filtered ∧
    (tinAt .falling 6 .low .high).act.line.tin[2].minDuration ≤ (tinAt .falling 6 .low .high).tu.tin[2].stable + 1 ∧
    (tinAt .falling 7 .low .high).tu.tin[2].stable + 1 < (tinAt .falling 7 .low .high).act.line.tin[2].minDuration := by
  decide +kernel

theorem running_ready : running.ready := ⟨rfl, rfl, by decide⟩

theorem stopped_ready : stopped.ready := ⟨rfl, rfl, by decide⟩

/-- TRIPPED with nothing active and with a Trip-level cause active; HOLD with its cause gone; STOPPED; RUN. -/
theorem witness_AcknowledgeAndRequestTrip :
    (talking.ready ∧ DriveInv talking) ∧ (stopped.ready ∧ DriveInv stopped) ∧ (running.ready ∧ DriveInv running) ∧
    (let s := { talking with tu := { talking.tu with active := CauseSet.insert 0 .overload } }
     s.ready ∧ DriveInv s ∧ (after (.acknowledge 1) s).tu.drive = .tripped) ∧
    (let s := setActions running (allAct .hold false false)
     let h := { s with tu := { s.tu with drive := .hold, e := .hold, latched := CauseSet.insert 0 .sensorWire } }
     h.ready ∧ DriveInv h ∧ (after (.acknowledge 1) h).tu.drive = .run) :=
  ⟨⟨⟨rfl, rfl, by decide⟩, driveInv_of (by decide +kernel)⟩, ⟨stopped_ready, driveInv_of (by decide +kernel)⟩,
    ⟨running_ready, driveInv_of (by decide +kernel)⟩, ⟨⟨rfl, rfl, by decide⟩, driveInv_of (by decide +kernel), by decide +kernel⟩,
    ⟨⟨rfl, rfl, by decide⟩, driveInv_of (by decide +kernel), by decide +kernel⟩⟩

/-! ## Witnesses: capture and record store -/

/-- ARMED with N_post 128 and 0, TRIGGERED with three and four causes, DISARMED, FROZEN. -/
theorem witness_CaptureRequestsAct :
    running.ready ∧ running.cb.state = .armed ∧ running.act.line.nPost ≠ 0 ∧ (setNPost running 0).act.line.nPost = 0 ∧
    (setNPost running 0).ready ∧ (capturing 5).ready ∧ (capturing 5).cb.state = .triggered ∧
    ({ (capturing 5).cb with causes := List.replicate 3 .request }).causes.length < 4 ∧
    4 ≤ ({ (capturing 5).cb with causes := List.replicate 4 .request }).causes.length ∧
    frozenCapture.ready ∧ frozenCapture.cb.state = .frozen ∧ captureReset.state = .disarmed :=
  ⟨running_ready, rfl, by decide +kernel, rfl, ⟨rfl, rfl, by decide⟩, ⟨rfl, rfl, by decide⟩, rfl, by decide, by decide,
    ⟨rfl, rfl, by decide⟩, rfl, rfl⟩

/-- Out of TRIGGERED; in it one step short of 20 ms and at it. -/
theorem witness_CadenceFreezesShort :
    running.inReset = false ∧ running.cb.state ≠ .triggered ∧ (capturingSince 199 5).inReset = false ∧
    (capturingSince 199 5).cb.state = .triggered ∧ (capturingSince 199 5).cb.cadence = some 199 ∧ 200 ≤ 199 + 1 ∧
    (∀ n, (capturingSince 198 5).cb.cadence = some n → n + 1 < 200) ∧
    (capturingSince 199 5).cb.causes = .cause 14 :: [] ∧ 1 < (capturingSince 199 5).cb.valid :=
  ⟨rfl, by decide, rfl, rfl, rfl, by decide, fun n h => by cases h; decide, rfl, by decide⟩

/-- No record, a bound one, one whose timer stands at 48, one at 49 with three and with four records queued; a further count at its
limit. -/
theorem witness_RecordsCloseAndStartWriting :
    stopped.inReset = false ∧ stopped.rs.gathering = none ∧
    (capturing 5).rs.gathering = some { record := aRecord, timer := none, bound := true } ∧
    (let g : Gathering := { record := aRecord, timer := some 49, bound := false }
     let s (n : Nat) := { stopped with rs := { stopped.rs with gathering := some g, queue := List.replicate n aRecord } }
     (s 3).rs.gathering = some g ∧ (s 3).rs.queue.length < 4 ∧ (s 4).rs.queue = List.replicate 3 aRecord ++ [aRecord] ∧
     (s 4).rs.queue.length = 4) ∧
    48 + 1 < 50 ∧ 50 ≤ 49 + 1 ∧ ({ aRecord with further := 255 }).further ≤ 255 := by decide +kernel

/-- Not programming; a number below the last and the last; the first and the second bad verify. -/
theorem witness_ProgramCompletes :
    stopped.inReset = false ∧ stopped.rs.state ≠ .programming ∧
    (let s := storing .programming 49 [(49, .invalid)] [aRecord]
     s.inReset = false ∧ s.rs.state = .programming ∧ s.rs.queue = aRecord :: [] ∧ s.rs.nextSeq < 4294967295 ∧ s.rs.retry = false ∧
     ({ s.rs with nextSeq := 4294967294 }).nextSeq < 4294967295 ∧ ({ s.rs with nextSeq := 4294967295 }).nextSeq = 4294967295 ∧
     ({ s.rs with retry := true }).retry = true) := by decide +kernel

/-- Erasing for writing, clearing the first and the last sector, neither; a good verify and the highest bit bad. -/
theorem witness_ErasesComplete :
    Slots.Ok 64 (storing .erasing 48 [(48, .invalid), (63, .invalid)] [aRecord]).rs.array ∧
    (storing .erasing 48 [(48, .invalid), (63, .invalid)] [aRecord]).inReset = false ∧
    (storing .erasing 48 [(48, .invalid), (63, .invalid)] [aRecord]).rs.writeSlot.val % 16 = 0 ∧
    (storing (.clearing 0) 20 [] []).rs.state = .clearing 0 ∧ (storing (.clearing 3) 20 [] []).rs.state = .clearing 3 ∧
    Slots.Ok 64 (storing (.clearing 0) 20 [] []).rs.array ∧
    (storing (.clearing 3) 20 [] [aRecord]).rs.queue ≠ [] ∧ stopped.me.mask.getLsbD 7 = true ∧
    stopped.rs.state ≠ .erasing ∧ (∀ k, stopped.rs.state ≠ .clearing k) ∧ (0x8000 : Word) ≠ 0 ∧ (0 : Fin 4) ≠ 3 :=
  ⟨⟨by decide +kernel, by decide +kernel⟩, by decide +kernel, by decide +kernel, rfl, rfl, ⟨by decide +kernel, by decide +kernel⟩, by decide,
    by decide +kernel, by decide, by decide, by decide, by decide⟩

/-- Not scanning; scanning an array with no record, with one numbered 7, and with the last number. -/
theorem witness_ScanEndSetsTheStore :
    (StoreInv busy ∧ busy.inReset = false ∧ busy.rs.state ≠ .scanning) ∧
    (StoreInv talking ∧ talking.inReset = false ∧ talking.rs.state = .scanning ∧
      ∀ i q r, slotAt i talking.rs.array ≠ some (.valid q r)) ∧
    (∀ q ∈ [7, 4294967295], StoreInv (storing .scanning 0 [(20, .valid q aRecord)] []) ∧
      slotAt 20 (storing .scanning 0 [(20, .valid q aRecord)] []).rs.array = some (.valid q aRecord)) := by
  have last (q : Nat) (h : 1 ≤ q ∧ q ≤ lastSequence) : StoreInv (storing .scanning 0 [(20, .valid q aRecord)] []) :=
    storeInv_of ⟨rfl, fun _ h => nomatch h⟩ ⟨rfl, by simp [storing, recordStoreReset]⟩ (fun _ h => absurd h (Nat.not_lt_zero _))
      (Nat.zero_le 256) (.inl rfl) q aRecord 20
      (fun p hp => .inr ⟨by simpa [storing, recordStoreReset] using hp, h, fun e => nomatch e⟩) ⟨by show 1 ≤ 8; decide, by show 8 ≤ 4294967295; decide⟩ aRecord_bounded
  refine ⟨⟨busy_stores, rfl, by decide +kernel⟩,
    ⟨storeInv_of ⟨rfl, fun _ h => nomatch h⟩ ⟨rfl, fun _ h => nomatch h⟩ (by decide +kernel) (by decide +kernel) (.inl rfl) 1 aRecord 0
      (fun _ h => nomatch h) (by decide +kernel) aRecord_bounded, rfl, rfl, fun _ _ _ h => nomatch h⟩,
    fun q hq => ⟨last q ?_, rfl⟩⟩
  rcases List.mem_cons.mp hq with h | h
  · subst h; decide +kernel
  · have := List.mem_singleton.mp h; subst this; decide +kernel

/-! ## Witnesses: links and the upstream direction -/

/-- Every link in every state; a lock one short and complete (12 frames by default); a timer one step short of the timeout and at it (200,
10, 10 and 50 by default); relock on and off; a calibration and a wire check in flight and none. -/
theorem witness_LinksMoveByFramesAndTimeouts :
    (∀ l ∈ [LinkId.C, .A, .B, .S], ∀ st ∈ [LinkState.down, .searching, .locking, .locked, .lost],
      ((running.setLink l { linkReset with state := st }).link l).state = st ∧
      (running.setLink l { linkReset with state := st }).inReset = false) ∧
    ([LinkId.C, .A, .B, .S].map fun l => (running.act.linkEntry l).timeout) = [200, 10, 10, 50] ∧
    (198 + 1 < 200 ∧ 200 ≤ 199 + 1 ∧ 8 + 1 < 10 ∧ 10 ≤ 9 + 1 ∧ 48 + 1 < 50 ∧ 50 ≤ 49 + 1) ∧
    ((calibrating 0 0).reg .A).calibration.isSome = true ∧ (running.reg .A).calibration = none ∧ busy.scu.wire.isSome = true ∧
    running.scu.wire = none ∧ 10 + 1 < 12 ∧ 12 ≤ 11 + 1 ∧ linkReset.relock = true ∧ ({ linkReset with relock := false }).relock = false := by decide +kernel

/-- A link beside the last and each link; DOWN, LOST and LOCKED; the drive in RUN and STOPPED. -/
theorem witness_LinkControlOperates :
    running.ready ∧ stopped.ready ∧ 4 ≤ (4 : Word).toNat ∧ (3 : Word) = BitVec.ofNat 16 (linkCode .S) ∧
    running.running = true ∧ stopped.running = false ∧
    (∀ st ∈ [LinkState.down, .lost, .searching, .locking],
      ({ stopped with linkA := { linkReset with state := st } }).linkC.state = .locked) :=
  ⟨running_ready, stopped_ready, by decide, by decide, by decide, by decide, by decide⟩

/-- A Report and a management frame being sent, nothing being sent, a Report waiting; a Reply, a high, a low notice and nothing waiting; queues of seven and
eight notices; a kind enabled and disabled. -/
theorem witness_NoticesQueueAndSlotsCarryThem :
    (∀ u ∈ [LineUse.idle, .report running.report, .management (.notice restartNotice)],
      ({ running with up := { sending := u, waiting := none } }).inReset = false ∧
      ({ running with up := { sending := u, waiting := none } }).linkC.state = .locked) ∧
    ({ running with up := { sending := .management (.notice restartNotice), waiting := some running.report } }).up.waiting =
      some running.report ∧
    running.me.replies = [] ∧ running.me.high = [] ∧ running.me.low = [] ∧ talking.me.high = restartNotice :: [] ∧
    (List.replicate 7 restartNotice).length < 8 ∧ 8 ≤ (List.replicate 8 restartNotice).length ∧
    List.replicate 8 restartNotice = List.replicate 7 restartNotice ++ [restartNotice] ∧
    running.me.mask.getLsbD (NoticeKind.code .linkState) = true ∧ (0 : Word).getLsbD (NoticeKind.code .linkState) = false := by
  decide +kernel

/-! ## Witnesses: requests -/

theorem witness_RequestsGetOneReplyOrAreNotActedOn :
    (requestOf (.reset 3) = some (3, 19) ∧ busy.ready ∧ QueueInv busy ∧ StoreInv busy ∧ busy.running = true ∧
      requestOf (.unknownRequest 3 0 []) = some (3, 0) ∧ (0 : Byte) ≠ 19) ∧
    running.inReset = false ∧ ({ running with linkC := linkReset }).linkC.state ≠ .locked ∧ running.linkC.state = .locked ∧
    (requestOf (.requestTrip 1)).isSome = true ∧
    4 ≤ ({ running.me with replies := List.replicate 4 { tag := 0, code := 1, status := .done, result := [] } }).replies.length :=
  ⟨⟨rfl, ⟨rfl, rfl, by decide⟩, busy_queues, busy_stores, by decide +kernel, rfl, by decide⟩, by decide +kernel⟩

/-- Codes, banks and indices on both sides of their ends, for each table. -/
theorem witness_ReadEntryReturnsTheBank :
    running.ready ∧ 4 < (5 : Word).toNat ∧ 1 < (2 : Word).toNat ∧ (1 : Word).toNat ≤ 1 ∧
    (∀ tb ∈ allTables, tableOfCode (BitVec.ofNat 16 tb.code) = some tb ∧
      (BitVec.ofNat 16 (tableEntries tb - 1)).toNat < tableEntries tb ∧
      tableEntries tb ≤ (BitVec.ofNat 16 (tableEntries tb)).toNat) :=
  ⟨running_ready, by decide, by decide, by decide, by decide⟩

/-- A capture that is not frozen and one that is, the last valid snapshot and one beyond; a store that scans, clears, serves; a stored
and a pending record and none; no wire check and one in flight; the codes beside the twenty, and a link beside the four. -/
theorem witness_ReadsChangeNothing :
    (busy.ready ∧ QueueInv busy ∧ StoreInv busy ∧ busy.cb.state ≠ .frozen ∧ busy.rs.state ≠ .scanning ∧
      (∀ k, busy.rs.state ≠ .clearing k) ∧ slotAt 20 busy.rs.array = some (.valid 7 aRecord) ∧ busy.rs.queue[0]? = none ∧
      busy.scu.wire.isSome = true) ∧
    (let s := { stopped with rs := { stopped.rs with state := .fault, queue := [aRecord] } }
     s.ready ∧ QueueInv s ∧ StoreInv s ∧ s.rs.state ≠ .scanning ∧ (∀ k, s.rs.state ≠ .clearing k) ∧
     s.rs.queue[0]? = some aRecord ∧ s.scu.wire = none) ∧
    (frozenCapture.ready ∧ QueueInv frozenCapture ∧ StoreInv frozenCapture ∧ frozenCapture.cb.state = .frozen ∧
      frozenCapture.cb.valid ≤ (2 : Word).toNat ∧ (1 : Word).toNat < frozenCapture.cb.valid ∧
      slotAt 1 frozenCapture.cb.slots = some aSnapshot) ∧
    (talking.ready ∧ talking.rs.state = .scanning) ∧ (storing (.clearing 1) 0 [] []).ready ∧
    ((0 : Byte) = 0 ∨ 20 < (0 : Byte).toNat) ∧ 20 < (21 : Byte).toNat ∧ 6 ≤ (6 : Word).toNat ∧
    4 ≤ (4 : Word).toNat ∧ (3 : Word) = BitVec.ofNat 16 (linkCode .S) :=
  ⟨⟨⟨rfl, rfl, by decide⟩, busy_queues, busy_stores, by decide +kernel, by decide +kernel, by decide +kernel, by decide +kernel, rfl,
      rfl⟩,
    ⟨⟨rfl, rfl, by decide⟩, queueInv_of (by decide +kernel) (fun r h => by cases List.mem_singleton.mp h; exact aRecord_bounded) (.inl rfl),
      storeInv_of ⟨rfl, fun _ h => nomatch h⟩ ⟨rfl, fun _ h => nomatch h⟩ (by decide +kernel) (by decide +kernel)
        (.inr (.inl rfl)) 0 aRecord 0 (fun _ h => nomatch h) (by decide +kernel) aRecord_bounded,
      by decide, by decide, rfl, rfl⟩,
    ⟨⟨rfl, rfl, by decide⟩, frozen_queues,
      storeInv_of ⟨by decide +kernel, by decide +kernel⟩ ⟨rfl, fun _ h => nomatch h⟩ (by decide +kernel) (by decide +kernel)
        (.inr (.inr ⟨rfl, rfl⟩)) 0 aRecord 0 (fun _ h => nomatch h) (by decide +kernel) aRecord_bounded,
      rfl, by decide +kernel, by decide +kernel, by decide +kernel⟩,
    ⟨⟨rfl, rfl, by decide⟩, rfl⟩, ⟨rfl, rfl, by decide⟩, .inl rfl, by decide, by decide, by decide, by decide⟩

/-- Lengths beside and at 24; tables and indices beside and at their ends; a switch pending and none. -/
theorem witness_WriteEntryLimitsEveryField :
    running.ready ∧ (List.replicate 23 (0 : Word)).length ≠ 24 ∧ (List.replicate 24 (0 : Word)).length = 24 ∧ 4 < (5 : Word).toNat ∧
    (4 : Word) = BitVec.ofNat 16 (TableId.code .line) ∧ (9 : Word).toNat < tableEntries .line ∧ tableEntries .line ≤ (10 : Word).toNat ∧
    running.me.pendingSwitch.get .line = false ∧ (after (.switchBank 1 4) running).me.pendingSwitch.get .line = true ∧
    (after (.switchBank 1 4) running).inReset = false ∧ (after (.switchBank 1 4) running).linkC.state = .locked ∧
    (after (.switchBank 1 4) running).me.replies.length < 4 :=
  ⟨running_ready, by decide, by decide, by decide, by decide, by decide, by decide, rfl, by decide +kernel, by decide +kernel,
    by decide +kernel, by decide +kernel⟩

/-- A table beyond the last; a switch pending; a standby bank that passes and one that offends. -/
theorem witness_BanksAreCopiedAndSwitched :
    running.ready ∧ 4 < (5 : Word).toNat ∧ (0 : Word) = BitVec.ofNat 16 (TableId.code .motor) ∧
    running.me.pendingSwitch.get .motor = false ∧ running.me.standby.offending .motor = none ∧
    (let b := { running.me.standby with motor := { running.me.standby.motor with b := { motorEntryDefault with uLo := 65535 } } }
     b.offending .motor = some 1) ∧
    (after (.switchBank 1 0) running).me.pendingSwitch.get .motor = true :=
  ⟨running_ready, by decide, by decide, rfl, by decide +kernel, by decide +kernel, by decide +kernel⟩

/-- A busy, an idle and a failed store in STOPPED and in RUN; motors and channels at and beyond their ends; a calibration and a wire
check in flight; a link that is not LOCKED; a failed reference. -/
theorem witness_LongOperationsBegin :
    running.ready ∧ stopped.ready ∧ talking.ready ∧ talking.rs.state = .scanning ∧ stopped.rs.state = .idle ∧
    running.running = true ∧ stopped.running = false ∧ 2 ≤ (2 : Word).toNat ∧ (1 : Word) = BitVec.ofNat 16 (motorCode .B) ∧
    (calibrating 0 0).ready ∧ ((calibrating 0 0).reg .A).calibration ≠ none ∧ (stopped.reg .A).calibration = none ∧
    ({ stopped with linkA := linkReset }).ready ∧ 8 ≤ (8 : Word).toNat ∧ (7 : Word) = BitVec.ofNat 16 (7 : Fin 8).val ∧
    busy.ready ∧ busy.scu.wire ≠ none ∧ busy.inService 1 = true ∧ watching.ready ∧ watching.scu.wire = none ∧
    watching.inService 2 = false ∧ watching.linkS.state = .locked ∧ watching.scu.refFail = false ∧
    ({ watching with linkS := linkReset }).ready ∧ ({ watching with scu := { sensorReset with refFail := true } }).scu.refFail = true :=
  ⟨running_ready, stopped_ready, ⟨rfl, rfl, by decide⟩, rfl, rfl, by decide, by decide, by decide, by decide, ⟨rfl, rfl, by decide⟩,
    by decide +kernel, rfl, ⟨rfl, rfl, by decide⟩, by decide, by decide, ⟨rfl, rfl, by decide⟩, by decide +kernel, by decide +kernel,
    ⟨rfl, rfl, by decide⟩, rfl, by decide +kernel, rfl, rfl, ⟨rfl, rfl, by decide⟩, rfl⟩

theorem witness_EngineRegistersAreSet :
    running.ready ∧ running.running = true ∧ stopped.ready ∧ stopped.running = false ∧ Slots.Ok 64 busy.rs.array ∧
    ({ running with time := { tenths := 0, secondTenths := 9999 } }).inReset = false ∧
    9999 ≤ ({ running with time := { tenths := 0, secondTenths := 9999 } }).time.secondTenths ∧
    running.inReset = false ∧ running.time.secondTenths < 9999 :=
  ⟨running_ready, by decide, stopped_ready, by decide, busy_stores.array, by decide, Nat.le_refl _, by decide, by decide⟩

end Sys2Proof.Tests
end

section
/-! SUPPORT. O27: the ROM sine table is the rounded sine (R5). The sine of a table angle is the imaginary part of a power of the rotation
by one entry. A Gaussian rational `turn` stands for that rotation; its powers are exact integers over powers of 2^40 and stay so near the
true ones that each entry of the first quarter is judged by an integer comparison. The symmetries of the sine give the other quarters. -/

namespace Sys2Proof.Machine

/-! ## The rotation by one entry -/

/-- The angle between two neighbouring entries. -/
noncomputable def sineStep : ℝ := 2 * Real.pi / 1024

/-- The real part of `turn`, in units of 2^-40. -/
def turnRe : Int := 1099490929715

/-- The imaginary part of `turn`, in units of 2^-40. -/
def turnIm : Int := 6746476518

/-- A Gaussian rational beside the rotation by one entry, inside the unit circle. -/
noncomputable def turn : ℂ := ⟨turnRe / 2 ^ 40, turnIm / 2 ^ 40⟩

theorem norm_turn_le_one : ‖turn‖ ≤ 1 := by
  rw [← sq_le_one_iff₀ (norm_nonneg _), Complex.sq_norm, Complex.normSq_apply]
  norm_num [turn, turnRe, turnIm]

theorem sineStep_bounds : 0.0061359231515 < sineStep ∧ sineStep < 0.0061359231516 := by
  have lower := Real.pi_gt_d20
  have upper := Real.pi_lt_d20
  unfold sineStep
  constructor <;> linarith

theorem abs_cos_sineStep_sub_le : |Real.cos sineStep - turnRe / 2 ^ 40| ≤ 7 / 2 ^ 36 := by
  obtain ⟨lower, upper⟩ := sineStep_bounds
  have pos : 0 < sineStep := by linarith
  have taylor := Real.cos_bound (x := sineStep) (by rw [abs_of_pos pos]; linarith)
  have fourth : |sineStep| ^ 4 ≤ 0.0061359231516 ^ 4 := by rw [abs_of_pos pos]; gcongr
  have sq_lower : 0.0061359231515 ^ 2 ≤ sineStep ^ 2 := by gcongr
  have sq_upper : sineStep ^ 2 ≤ 0.0061359231516 ^ 2 := by gcongr
  rw [abs_le] at taylor ⊢
  unfold turnRe
  push_cast
  constructor <;> linarith

theorem abs_sin_sineStep_sub_le : |Real.sin sineStep - turnIm / 2 ^ 40| ≤ 1 / 2 ^ 36 := by
  obtain ⟨lower, upper⟩ := sineStep_bounds
  have pos : 0 < sineStep := by linarith
  have taylor := Real.sin_bound (x := sineStep) (by rw [abs_of_pos pos]; linarith)
  have fifth : |sineStep| ^ 5 ≤ 0.0061359231516 ^ 5 := by rw [abs_of_pos pos]; gcongr
  have cube_lower : 0.0061359231515 ^ 3 ≤ sineStep ^ 3 := by gcongr
  have cube_upper : sineStep ^ 3 ≤ 0.0061359231516 ^ 3 := by gcongr
  rw [abs_le] at taylor ⊢
  unfold turnIm
  push_cast
  constructor <;> linarith

theorem norm_exp_sub_turn_le : ‖Complex.exp (sineStep * Complex.I) - turn‖ ≤ 1 / 2 ^ 33 := by
  refine (Complex.norm_le_abs_re_add_abs_im _).trans ?_
  have re := abs_cos_sineStep_sub_le
  have im := abs_sin_sineStep_sub_le
  simp only [Complex.sub_re, Complex.sub_im, Complex.exp_ofReal_mul_I_re, Complex.exp_ofReal_mul_I_im, turn]
  linarith

/-! ## Its powers -/

/-- Inside the unit circle a power moves at most as many times as far as its base. -/
theorem norm_pow_sub_pow_le {z u : ℂ} (hz : ‖z‖ ≤ 1) (hu : ‖u‖ ≤ 1) (n : Nat) : ‖z ^ n - u ^ n‖ ≤ n * ‖z - u‖ := by
  induction n with
  | zero => simp
  | succ n ih =>
    calc ‖z ^ (n + 1) - u ^ (n + 1)‖
      _ = ‖z ^ n * (z - u) + (z ^ n - u ^ n) * u‖ := by ring_nf
      _ ≤ ‖z‖ ^ n * ‖z - u‖ + ‖z ^ n - u ^ n‖ * ‖u‖ := by
        rw [← norm_pow, ← norm_mul, ← norm_mul]; exact norm_add_le _ _
      _ ≤ 1 * ‖z - u‖ + (n * ‖z - u‖) * 1 := by gcongr; exact pow_le_one₀ (norm_nonneg z) hz
      _ = (n + 1 : Nat) * ‖z - u‖ := by push_cast; ring

theorem abs_sin_sub_turn_pow_im_le (k : Nat) : |Real.sin (k * sineStep) - (turn ^ k).im| ≤ k / 2 ^ 33 := by
  have power : (Complex.exp (sineStep * Complex.I) ^ k).im = Real.sin (k * sineStep) := by
    rw [← Complex.exp_nat_mul, ← mul_assoc, ← Complex.ofReal_natCast, ← Complex.ofReal_mul, Complex.exp_ofReal_mul_I_im]
  calc |Real.sin (k * sineStep) - (turn ^ k).im|
    _ = |(Complex.exp (sineStep * Complex.I) ^ k - turn ^ k).im| := by rw [Complex.sub_im, power]
    _ ≤ ‖Complex.exp (sineStep * Complex.I) ^ k - turn ^ k‖ := Complex.abs_im_le_norm _
    _ ≤ k * ‖Complex.exp (sineStep * Complex.I) - turn‖ :=
      norm_pow_sub_pow_le (Complex.norm_exp_ofReal_mul_I _).le norm_turn_le_one k
    _ ≤ k * (1 / 2 ^ 33) := by gcongr; exact norm_exp_sub_turn_le
    _ = k / 2 ^ 33 := by ring

/-! ## The first quarter -/

/-- The entries from `k` on lie within 1/2 − k / 2^18 of 32767 times the imaginary part of the k-th power of `turn`, where that power is
(x + y i) / d. -/
def entriesFit (k : Nat) (x y d : Int) : List Nat → Bool
  | [] => true
  | v :: vs =>
    decide (2 ^ 18 * |v * d - 32767 * y| ≤ (2 ^ 17 - k) * d) &&
      entriesFit (k + 1) (x * turnRe - y * turnIm) (x * turnIm + y * turnRe) (d * 2 ^ 40) vs

theorem abs_sub_sin_le_of_fit {v k : Nat} {y d : Int} (hd : 0 < d) (hy : (y : ℝ) = d * (turn ^ k).im)
    (fit : 2 ^ 18 * |v * d - 32767 * y| ≤ (2 ^ 17 - k) * d) : |(v : ℝ) - 32767 * Real.sin (k * sineStep)| ≤ 1 / 2 := by
  have hd' : (0 : ℝ) < d := by exact_mod_cast hd
  have table : |(v : ℝ) - 32767 * (turn ^ k).im| ≤ 1 / 2 - k / 2 ^ 18 := by
    have fit' := (Int.cast_le (R := ℝ)).mpr fit
    push_cast at fit'
    rw [hy, show (v : ℝ) * d - 32767 * (d * (turn ^ k).im) = (v - 32767 * (turn ^ k).im) * d by ring, abs_mul,
      abs_of_pos hd', ← mul_assoc, mul_le_mul_iff_left₀ hd'] at fit'
    linarith
  have rotation := abs_sin_sub_turn_pow_im_le k
  have hk : (0 : ℝ) ≤ k := Nat.cast_nonneg k
  rw [abs_le] at table rotation ⊢
  constructor <;> linarith

theorem entriesFit_near (vs : List Nat) {k : Nat} {x y d : Int} (hd : 0 < d) (hx : (x : ℝ) = d * (turn ^ k).re)
    (hy : (y : ℝ) = d * (turn ^ k).im) (fit : entriesFit k x y d vs = true) {i : Nat} (hi : i < vs.length) :
    |((vs.getD i 0 : Nat) : ℝ) - 32767 * Real.sin ((k + i : Nat) * sineStep)| ≤ 1 / 2 := by
  induction vs generalizing k x y d i with
  | nil => simp at hi
  | cons v vs ih =>
    simp only [entriesFit, Bool.and_eq_true, decide_eq_true_eq] at fit
    obtain ⟨head, tail⟩ := fit
    cases i with
    | zero => exact abs_sub_sin_le_of_fit hd hy head
    | succ i =>
      have next := ih (by positivity) (by push_cast; rw [pow_succ, Complex.mul_re, hx, hy, turn]; ring)
        (by push_cast; rw [pow_succ, Complex.mul_im, hx, hy, turn]; ring) tail (Nat.lt_of_succ_lt_succ hi)
      simpa only [List.getD_cons_succ, Nat.add_assoc, Nat.add_comm 1] using next

theorem sineQuarter_fits : entriesFit 0 1 0 1 sineQuarter = true := by decide +kernel

theorem sineQuarter_near {k : Nat} (hk : k ≤ 256) :
    |((sineQuarter.getD k 0 : Nat) : ℝ) - 32767 * Real.sin (k * sineStep)| ≤ 1 / 2 := by
  have near := entriesFit_near sineQuarter (i := k) one_pos (by simp) (by simp) sineQuarter_fits
    (Nat.lt_of_le_of_lt hk (by decide +kernel))
  simpa using near

/-! ## The whole turn -/

theorem abs_neg_sub_le_of_abs_sub_neg_le {v r : ℝ} (near : |v - 32767 * -r| ≤ 1 / 2) : |-v - 32767 * r| ≤ 1 / 2 := by
  rwa [← abs_neg, show -(-v - 32767 * r) = v - 32767 * -r by ring]

theorem sine_near {k : Nat} (hk : k < 1024) : |(sine k : ℝ) - 32767 * Real.sin (k * sineStep)| ≤ 1 / 2 := by
  have half : 512 * sineStep = Real.pi := by unfold sineStep; ring
  unfold sine
  split_ifs with first second third
  · exact_mod_cast sineQuarter_near first
  · have near := sineQuarter_near (k := 512 - k) (by omega)
    rw [Nat.cast_sub second, Nat.cast_ofNat, sub_mul, half, Real.sin_pi_sub] at near
    exact_mod_cast near
  · have near := sineQuarter_near (k := k - 512) (by omega)
    rw [Nat.cast_sub (by omega), Nat.cast_ofNat, sub_mul, half, Real.sin_sub_pi] at near
    exact_mod_cast abs_neg_sub_le_of_abs_sub_neg_le near
  · have near := sineQuarter_near (k := 1024 - k) (by omega)
    rw [Nat.cast_sub (by omega), Nat.cast_ofNat, sub_mul, show 1024 * sineStep = 2 * Real.pi by linarith,
      Real.sin_two_pi_sub] at near
    exact_mod_cast abs_neg_sub_le_of_abs_sub_neg_le near

/-- Settles O27: every entry by `sine_near`, the reading of the table by definition, the listed entries by evaluation. -/
theorem sineTableIsRoundedSine : Obligations.SineTableIsRoundedSine := by
  refine ⟨fun k hk => ?_, fun _ => ⟨rfl, rfl⟩, by decide +kernel⟩
  have near := sine_near hk
  rwa [show (k : ℝ) * sineStep = 2 * Real.pi * k / 1024 by unfold sineStep; ring] at near

end Sys2Proof.Machine
end

section
/-! SUPPORT. O24: a Sample answered with gates on regulates by R18 to R23 within the voltage bound, and one answered with gates off keeps
the motor's integrators or finds them cleared by an entry to TRIPPED (R16, R17). Cause events can move the integrators only by such an
entry (`IntegratorsFollow`), the stages before the gate decision leave what the PI stage reads (`StageFrame`), and `SampleAnswer` says
once what a Sample can answer. -/

namespace Sys2Proof.Machine

/-! ## The regulators after the updates of other blocks -/

@[simp] theorem State.setTl_reg (s : State) (x : Limiter) (m : Motor) : (s.setTl x).reg m = s.reg m := by cases m <;> rfl
@[simp] theorem State.setTu_reg (s : State) (x : TripUnit) (m : Motor) : (s.setTu x).reg m = s.reg m := by cases m <;> rfl
@[simp] theorem State.setCb_reg (s : State) (x : CaptureBuffer) (m : Motor) : (s.setCb x).reg m = s.reg m := by cases m <;> rfl
@[simp] theorem State.setRs_reg (s : State) (x : RecordStore) (m : Motor) : (s.setRs x).reg m = s.reg m := by cases m <;> rfl
@[simp] theorem State.send_reg (s : State) (x : Sent) (m : Motor) : (s.send x).reg m = s.reg m := by cases m <;> rfl

@[simp] theorem State.setLink_reg (s : State) (l : LinkId) (x : LinkUnit) (m : Motor) : (s.setLink l x).reg m = s.reg m := by
  cases l <;> cases m <;> rfl

@[simp] theorem State.notify_reg (s : State) (k : NoticeKind) (a b : Word) (p : Priority) (m : Motor) :
    (s.notify k a b p).reg m = s.reg m := by
  unfold State.notify
  split
  · cases p <;> cases m <;> rfl
  · rfl

theorem State.dropCause_reg (s : State) (c : Cause) (m : Motor) : (s.dropCause c).reg m = s.reg m := by
  unfold State.dropCause
  split
  · simp only [State.recomputeE, State.setTu_reg]
    split <;> simp [State.notifyCause]
  · rfl

theorem State.freeze_reg (s : State) (short : Bool) (m : Motor) : (s.freeze short).reg m = s.reg m := by
  simp [State.freeze]

theorem State.trigger_reg (s : State) (x : CaptureEntry) (m : Motor) : (s.trigger x).1.reg m = s.reg m := by
  unfold State.trigger
  split
  · simp only
    split <;> simp [State.freeze_reg]
  · split <;> simp
  · rfl
  · rfl

theorem State.logRaise_reg (s : State) (c : Cause) (o : Option TriggerOutcome) (m : Motor) :
    (s.logRaise c o).reg m = s.reg m := by
  unfold State.logRaise
  simp only
  split <;> simp

/-- The notice, the trigger and the log entry of a raise leave the regulators as the judgement of E left them. -/
theorem State.consequences_reg (s : State) (c : Cause) (m : Motor) :
    (s.consequences c).reg m =
      (if s.acting c = .ignore then s.reconsider else (s.notifyCause .causeRaised c).reconsider).reg m := by
  unfold State.consequences
  split
  · rfl
  · simp only
    split <;> split <;> simp [State.logRaise_reg, State.trigger_reg]

/-! ## Integrators under cause events -/

/-- A motor's integrators from `s` to `t`: they keep their values, and TRIPPED is neither entered nor left; or TRIPPED is entered, and
they are 0 (R17). -/
inductive IntegratorsFollow (m : Motor) (s t : State) : Prop where
  | kept (intD : (t.reg m).intD = (s.reg m).intD) (intQ : (t.reg m).intQ = (s.reg m).intQ)
      (drive : t.tu.drive = .tripped ↔ s.tu.drive = .tripped)
  | cleared (before : s.tu.drive ≠ .tripped) (after : t.tu.drive = .tripped) (intD : (t.reg m).intD = 0)
      (intQ : (t.reg m).intQ = 0)

theorem IntegratorsFollow.of_eq {m : Motor} {s t : State} (reg : t.reg m = s.reg m) (drive : t.tu.drive = s.tu.drive) :
    IntegratorsFollow m s t :=
  .kept (by rw [reg]) (by rw [reg]) (by rw [drive])

theorem IntegratorsFollow.refl (m : Motor) (s : State) : IntegratorsFollow m s s := .of_eq rfl rfl

theorem IntegratorsFollow.trans {m : Motor} {s t u : State} (h : IntegratorsFollow m s t) (k : IntegratorsFollow m t u) :
    IntegratorsFollow m s u := by
  cases h with
  | kept hd hq hdrive =>
    cases k with
    | kept kd kq kdrive => exact .kept (kd.trans hd) (kq.trans hq) (kdrive.trans hdrive)
    | cleared before after kd kq => exact .cleared (fun h => before (hdrive.mpr h)) after kd kq
  | cleared before after hd hq =>
    cases k with
    | kept kd kq kdrive => exact .cleared before (kdrive.mpr after) (kd.trans hd) (kq.trans hq)
    | cleared again => exact absurd after again

/-- With the drive out of TRIPPED at the end the integrators were kept. -/
theorem IntegratorsFollow.eq_of_not_tripped {m : Motor} {s t : State} (h : IntegratorsFollow m s t)
    (drive : t.tu.drive ≠ .tripped) : (t.reg m).intD = (s.reg m).intD ∧ (t.reg m).intQ = (s.reg m).intQ := by
  cases h with
  | kept hd hq _ => exact ⟨hd, hq⟩
  | cleared _ after _ _ => exact absurd after drive

theorem State.notify_follows (m : Motor) (s : State) (k : NoticeKind) (a b : Word) (p : Priority) :
    IntegratorsFollow m s (s.notify k a b p) :=
  .of_eq (s.notify_reg k a b p m) (by rw [State.notify_tu])

theorem State.moveTo_follows (m : Motor) {s : State} {d : DriveState} (before : s.tu.drive ≠ .tripped) (after : d ≠ .tripped) :
    IntegratorsFollow m s (s.moveTo d) :=
  .kept (by simp [State.moveTo]) (by simp [State.moveTo]) (by simp [State.moveTo, before, after])

theorem State.clearIntegrators_reg (s : State) (m : Motor) :
    s.clearIntegrators.reg m = { s.reg m with intD := 0, intQ := 0 } := by
  cases m <;> rfl

theorem State.enterTripped_reg (s : State) (m : Motor) : s.enterTripped.reg m = { s.reg m with intD := 0, intQ := 0 } := by
  unfold State.enterTripped
  simp only
  split <;> simp [State.dropCause_reg, State.clearRuns, State.clearIntegrators_reg, State.moveTo]

theorem State.enterTripped_follows (m : Motor) {s : State} (before : s.tu.drive ≠ .tripped) :
    IntegratorsFollow m s s.enterTripped :=
  .cleared before s.enterTripped_drive (by rw [State.enterTripped_reg]) (by rw [State.enterTripped_reg])

theorem State.judge_follows (m : Motor) (s : State) : IntegratorsFollow m s s.judge := by
  unfold State.judge
  split
  case h_1 drive _ => exact State.enterTripped_follows m (by simp [drive])
  case h_2 drive _ => exact State.enterTripped_follows m (by simp [drive])
  case h_3 drive _ => exact State.moveTo_follows m (by simp [drive]) (by decide)
  case h_4 drive _ => exact State.enterTripped_follows m (by simp [drive])
  case h_5 => exact .refl m s
  case h_6 drive _ _ => exact State.moveTo_follows m (by simp [drive]) (by decide)
  case h_7 => exact .refl m s

theorem State.reconsider_follows (m : Motor) (s : State) : IntegratorsFollow m s s.reconsider :=
  IntegratorsFollow.trans (t := s.recomputeE) (.of_eq (s.setTu_reg _ m) rfl) (State.judge_follows m _)

theorem State.clearCause_follows (m : Motor) (s : State) (c : Cause) : IntegratorsFollow m s (s.clearCause c) := by
  unfold State.clearCause
  split
  · exact IntegratorsFollow.trans (.of_eq (s.dropCause_reg c m) (s.dropCause_drive c)) (State.judge_follows m _)
  · exact .refl m s

theorem State.consequences_follows (m : Motor) (s : State) (c : Cause) : IntegratorsFollow m s (s.consequences c) := by
  refine IntegratorsFollow.trans ?_
    (.of_eq (State.consequences_reg s c m) (congrArg TripUnit.drive (State.consequences_tu s c)))
  split
  · exact s.reconsider_follows m
  · exact (s.notify_follows m _ _ _ _).trans (State.reconsider_follows m _)

theorem State.raise_follows (m : Motor) (s : State) (c : Cause) : IntegratorsFollow m s (s.raise c) := by
  have entered (x : TripUnit) (drive : x.drive = s.tu.drive) : IntegratorsFollow m s ((s.setTu x).consequences c) :=
    .trans (.of_eq (s.setTu_reg x m) drive) (State.consequences_follows m _ c)
  unfold State.raise
  split
  · exact entered _ rfl
  · split
    · exact .refl m s
    · exact entered _ rfl

theorem State.follow_follows (m : Motor) (s : State) (c : Cause) (a b : Bool) : IntegratorsFollow m s (s.follow c a b) := by
  unfold State.follow
  split
  · exact s.raise_follows m c
  · split
    · exact s.clearCause_follows m c
    · exact .refl m s

theorem State.clearLinkLost_follows (m : Motor) (s : State) (l : LinkId) : IntegratorsFollow m s (s.clearLinkLost l) := by
  unfold State.clearLinkLost
  split
  · exact s.clearCause_follows m _
  · exact .refl m s

theorem State.goodFrame_follows (m : Motor) (s : State) (l : LinkId) : IntegratorsFollow m s (s.goodFrame l) := by
  have set (x : LinkUnit) : IntegratorsFollow m s (s.setLink l x) := .of_eq (s.setLink_reg l x m) (by cases l <;> rfl)
  unfold State.goodFrame
  simp only
  split
  · exact (set _).trans (State.notify_follows m _ _ _ _ _)
  · split
    · exact set _
    · exact ((set _).trans (State.notify_follows m _ _ _ _ _)).trans (State.clearLinkLost_follows m _ l)
  · exact set _
  · exact .refl m s
  · exact .refl m s

theorem State.goodFrame_sent (s : State) (l : LinkId) : (s.goodFrame l).sent = s.sent := by
  have set (x : LinkUnit) : (s.setLink l x).sent = s.sent := by cases l <;> rfl
  have told (x : LinkUnit) (new : LinkState) : ((s.setLink l x).notifyLink l new).sent = s.sent :=
    (State.notify_frame _ _ _ _ _).sent.trans (set x)
  unfold State.goodFrame
  simp only
  split
  · exact told _ _
  · split
    · exact set _
    · exact (State.clearLinkLost_frame _ l).sent.trans (told _ _)
  · exact set _
  · rfl
  · rfl

/-! ## The stages before the gate decision -/

/-- What a Sample's stages before the gate decision leave: the tables, the motor's limited demand, H, the lines and the links; and the
integrators as cause events leave them. -/
structure StageFrame (m : Motor) (s t : State) : Prop where
  act : t.act = s.act
  ld : t.ld m = s.ld m
  h : t.tl.h = s.tl.h
  sent : t.sent = s.sent
  link : ∀ l, t.link l = s.link l
  integrators : IntegratorsFollow m s t

theorem StageFrame.refl (m : Motor) (s : State) : StageFrame m s s := ⟨rfl, rfl, rfl, rfl, fun _ => rfl, .refl m s⟩

theorem StageFrame.trans {m : Motor} {s t u : State} (h : StageFrame m s t) (k : StageFrame m t u) : StageFrame m s u :=
  ⟨k.act.trans h.act, k.ld.trans h.ld, k.h.trans h.h, k.sent.trans h.sent, fun l => (k.link l).trans (h.link l),
    h.integrators.trans k.integrators⟩

theorem StageFrame.of_cause {m : Motor} {s t : State} (h : CauseFrame s t) (k : IntegratorsFollow m s t) : StageFrame m s t where
  act := by simp only [State.act]; rw [h.me]
  ld := by cases m <;> simp only [State.ld] <;> rw [h.tl]
  h := by rw [h.tl]
  sent := h.sent
  link := h.link
  integrators := k

theorem StageFrame.setReg {m : Motor} {s t : State} (h : StageFrame m s t) {r : Regulator} (intD : r.intD = (t.reg m).intD)
    (intQ : r.intQ = (t.reg m).intQ) : StageFrame m s (t.setReg m r) :=
  h.trans
    { act := by cases m <;> rfl
      ld := by cases m <;> rfl
      h := by cases m <;> rfl
      sent := by cases m <;> rfl
      link := fun l => by cases m <;> cases l <;> rfl
      integrators := .kept (by simpa using intD) (by simpa using intQ) (by cases m <;> rfl) }

theorem StageFrame.notify {m : Motor} {s t : State} (h : StageFrame m s t) (k : NoticeKind) (a b : Word) (p : Priority) :
    StageFrame m s (t.notify k a b p) :=
  h.trans (.of_cause (t.notify_frame k a b p) (t.notify_follows m k a b p))

theorem StageFrame.follow {m : Motor} {s t : State} (h : StageFrame m s t) (c : Cause) (a b : Bool) :
    StageFrame m s (t.follow c a b) :=
  h.trans (.of_cause (t.follow_frame c a b) (t.follow_follows m c a b))

theorem StageFrame.raise {m : Motor} {s t : State} (h : StageFrame m s t) (c : Cause) : StageFrame m s (t.raise c) :=
  h.trans (.of_cause (t.raise_frame c) (t.raise_follows m c))

theorem StageFrame.measure {m : Motor} {s t : State} (h : StageFrame m s t) (f : SampleFrame) :
    StageFrame m s (t.measure m f) :=
  h.setReg rfl rfl

theorem StageFrame.checkSample {m : Motor} {s t : State} (h : StageFrame m s t) (f : SampleFrame) (oc : Bool) (age : Nat) :
    StageFrame m s (t.checkSample m f oc age) := by
  have causes (oc module underBegin underEnd overBegin overEnd hot cool : Bool) :=
    ((((h.follow (.overcurrent m) oc !oc).follow (.module m) module !module).follow (.undervolt m) underBegin underEnd).follow
      (.overvolt m) overBegin overEnd).follow (.heatsink m) hot cool
  unfold State.checkSample
  simp only
  split
  · exact ((causes _ _ _ _ _ _ _ _).setReg (by rfl) (by rfl)).raise _
  · exact (causes _ _ _ _ _ _ _ _).setReg (by rfl) (by rfl)

theorem StageFrame.abortCalibration {m : Motor} {s t : State} (h : StageFrame m s t) :
    StageFrame m s (t.abortCalibration m) := by
  unfold State.abortCalibration
  split
  · exact h
  · exact (h.setReg (by rfl) (by rfl)).notify _ _ _ _

theorem StageFrame.calibrateSample {m : Motor} {s t : State} (h : StageFrame m s t) (f : SampleFrame) :
    StageFrame m s (t.calibrateSample m f) := by
  unfold State.calibrateSample
  simp only
  split
  · exact h
  · split
    · exact h.abortCalibration
    · split
      · exact h.setReg rfl rfl
      · split
        · exact (h.setReg (by rfl) (by rfl)).notify _ _ _ _
        · exact (h.setReg (by rfl) (by rfl)).notify _ _ _ _

/-- A Sample taken either regulates or answers gates off, after stages that keep `StageFrame`. -/
theorem State.takeSample_cases (s : State) (m : Motor) (f : SampleFrame) :
    ∃ u, StageFrame m s u ∧
      ((u.running = true ∧ s.takeSample m f = u.regulate m f.seq (fluxAngle (s.ld m) (s.reg m).age)) ∨
        s.takeSample m f = u.send (.modulation m (gatesOff f.seq))) := by
  have stages (oc : Bool) (age : Nat) := (((StageFrame.refl m s).measure f).checkSample f oc age).calibrateSample f
  refine ⟨_, stages (overcurrent (s.act.motorEntry m).ocThreshold (condition (s.reg m) f) f) (s.reg m).age, ?_⟩
  unfold State.takeSample
  simp only
  split
  next permitted =>
    simp only [State.gatesPermitted, Bool.and_eq_true] at permitted
    obtain ⟨⟨running, _⟩, _⟩ := permitted
    exact .inl ⟨running, rfl⟩
  next => exact .inr rfl

/-! ## The answer to a Sample -/

/-- The PI stage from the integrators of `s` on the currents measured by `t`, with the H that `t` holds. -/
def regulation (m : Motor) (s t : State) : PiResult :=
  piStage (s.act.motorEntry m) { t.reg m with intD := (s.reg m).intD, intQ := (s.reg m).intQ } (s.ld m) t.tl.h

/-- The Modulation with gates on that a PI result gives at a flux angle (R23). -/
def modulationOf (seq : Word) (p : PiResult) (theta : Word) : Modulation :=
  { seq := seq, gate := true, va := (inversePark p.vd p.vq (sinOf theta) (cosOf theta)).1,
    vb := (inversePark p.vd p.vq (sinOf theta) (cosOf theta)).2 }

/-- What a Sample on a link that watches its line answers: gates on with the PI stage, or gates off. -/
inductive SampleAnswer (m : Motor) (f : SampleFrame) (s t : State) : Prop where
  | gated (intD : (t.reg m).intD = (regulation m s t).intD) (intQ : (t.reg m).intQ = (regulation m s t).intQ)
      (sent : t.sent =
        .modulation m (modulationOf f.seq (regulation m s t) (fluxAngle (s.ld m) (s.reg m).age)) :: s.sent)
  | off (integrators : IntegratorsFollow m s t) (sent : t.sent = .modulation m (gatesOff f.seq) :: s.sent)

/-- An answer depends on the regulator, the limited demand, the tables, the line and the drive state before, and on the regulator, H, the
line and the drive state after. -/
theorem SampleAnswer.congr {m : Motor} {f : SampleFrame} {s s' t t' : State} (answer : SampleAnswer m f s t)
    (reg : s'.reg m = s.reg m) (ld : s'.ld m = s.ld m) (act : s'.act = s.act) (sent : s'.sent = s.sent)
    (drive : s'.tu.drive = s.tu.drive) (reg' : t'.reg m = t.reg m) (tl' : t'.tl = t.tl) (sent' : t'.sent = t.sent)
    (drive' : t'.tu.drive = t.tu.drive) : SampleAnswer m f s' t' := by
  cases answer with
  | gated intD intQ line =>
    have same : regulation m s' t' = regulation m s t := by unfold regulation; rw [reg, ld, act, reg', tl']
    exact .gated (by rw [same, reg', intD]) (by rw [same, reg', intQ]) (by rw [same, reg, ld, sent, sent', line])
  | off integrators line =>
    exact .off ((IntegratorsFollow.of_eq reg.symm drive.symm).trans (integrators.trans (.of_eq reg' drive')))
      (by rw [sent, sent', line])


theorem State.regulate_answer {m : Motor} {f : SampleFrame} {s u : State} (stage : StageFrame m s u)
    (running : u.running = true) :
    SampleAnswer m f s (u.regulate m f.seq (fluxAngle (s.ld m) (s.reg m).age)) := by
  have notTripped : u.tu.drive ≠ .tripped := by
    intro tripped
    simp [State.running, tripped] at running
  obtain ⟨intD, intQ⟩ := stage.integrators.eq_of_not_tripped notTripped
  have same : regulation m s (u.regulate m f.seq (fluxAngle (s.ld m) (s.reg m).age)) =
      piStage (u.act.motorEntry m) (u.reg m) (u.ld m) u.tl.h := by
    unfold regulation
    rw [← stage.act, ← stage.ld, ← intD, ← intQ]
    cases m <;> rfl
  refine .gated ?_ ?_ ?_
  · rw [same]; simp [State.regulate]
  · rw [same]; simp [State.regulate]
  · rw [same, ← stage.sent]; cases m <;> rfl

theorem State.handleSample_answer (s : State) (m : Motor) (f : SampleFrame) : SampleAnswer m f s (s.handleSample m f) := by
  unfold State.handleSample
  simp only
  split
  next locked =>
    obtain ⟨u, stage, ⟨running, taken⟩ | taken⟩ := s.takeSample_cases m f
    · have still : ((s.takeSample m f).link (powerLink m)).state = .locked := by
        rw [taken, ← locked, ← stage.link]; cases m <;> rfl
      rw [State.goodFrame_locked still, taken]
      refine (State.regulate_answer stage running).congr rfl rfl rfl rfl rfl (State.setLink_reg _ _ _ m) ?_ ?_ ?_ <;>
        cases m <;> rfl
    · rw [taken]
      refine .off ((stage.integrators.trans (.of_eq (u.send_reg _ m) rfl)).trans (State.goodFrame_follows m _ _)) ?_
      rw [State.goodFrame_sent, ← stage.sent]; rfl
  next =>
    refine .off (IntegratorsFollow.trans (.of_eq (s.send_reg _ m) rfl) (State.goodFrame_follows m _ _)) ?_
    rw [State.goodFrame_sent]; rfl

/-- The snapshot at the close of a period reference's event leaves the regulators, the limiter, the trip unit and the lines (R119). -/
theorem State.closePeriod_keeps (s : State) (m : Motor) :
    s.closePeriod.reg m = s.reg m ∧ s.closePeriod.tl = s.tl ∧ s.closePeriod.tu = s.tu ∧ s.closePeriod.sent = s.sent := by
  unfold State.closePeriod
  split
  · exact ⟨s.setCb_reg _ m, rfl, rfl, rfl⟩
  · simp only
    split
    · refine ⟨?_, ?_, ?_, ?_⟩
      · simp [State.freezeAndAnnounce, State.freeze_reg, State.writeSnapshot]
      · simp [State.freezeAndAnnounce, State.freeze, State.notify_tl, State.writeSnapshot]
      · simp [State.freezeAndAnnounce, State.freeze_tu, State.writeSnapshot]
      · exact (State.freezeAndAnnounce_frame _ false).sent
    · exact ⟨by simp [State.writeSnapshot], rfl, rfl, rfl⟩
  · exact ⟨rfl, rfl, rfl, rfl⟩
  · exact ⟨rfl, rfl, rfl, rfl⟩

/-- The opening of a period reference's event leaves the regulators, the limited demands, the tables, the lines and the drive state
(R37, R119). -/
theorem State.openPeriod_keeps (s : State) (m : Motor) :
    s.advanceHold.countPeriod.reg m = s.reg m ∧ s.advanceHold.countPeriod.ld m = s.ld m ∧
      s.advanceHold.countPeriod.act = s.act ∧ s.advanceHold.countPeriod.sent = s.sent ∧
      s.advanceHold.countPeriod.tu = s.tu := by
  unfold State.countPeriod State.advanceHold
  cases m <;> cases s.tu.drive <;> exact ⟨rfl, rfl, rfl, rfl, rfl⟩

/-- A Sample that is answered at all gives one of the two answers. -/
theorem execSample_answer {m : Motor} {f : SampleFrame} {s t : State} (run : exec (.sample m f) s = .next t)
    (answered : t.sent ≠ s.sent) : SampleAnswer m f s t := by
  simp only [exec, execSample, Host.Outcome.next.injEq] at run
  split at run
  · exact absurd (congrArg State.sent run.symm) answered
  · subst run
    cases m with
    | A =>
      obtain ⟨reg, ld, act, sent, tu⟩ := s.openPeriod_keeps .A
      obtain ⟨reg', tl', tu', sent'⟩ := (s.advanceHold.countPeriod.handleSample .A f).closePeriod_keeps .A
      exact (State.handleSample_answer _ .A f).congr reg.symm ld.symm act.symm sent.symm (by rw [tu]) reg' tl' sent'
        (by rw [tu'])
    | B => exact s.handleSample_answer .B f

/-! ## The voltage bound (R21) -/

/-- What vd leaves of the voltage for the q axis (R21). -/
def voltageLeft (e : MotorEntry) (vd : Int) : Nat := isqrt (e.mceil * e.mceil - vd.natAbs * vd.natAbs)

/-- It is the integer root of Mceil² − vd². -/
theorem voltageLeft_sq {e : MotorEntry} {vd : Int} (bound : vd.natAbs ≤ e.mceil) :
    (voltageLeft e vd * voltageLeft e vd : Int) ≤ (e.mceil : Int) ^ 2 - vd ^ 2 ∧
      (e.mceil : Int) ^ 2 - vd ^ 2 < (voltageLeft e vd + 1 : Int) ^ 2 := by
  have room : ((e.mceil * e.mceil - vd.natAbs * vd.natAbs : Nat) : Int) = (e.mceil : Int) ^ 2 - vd ^ 2 := by
    rw [Nat.cast_sub (Nat.mul_le_mul bound bound)]
    push_cast
    rw [← sq, ← sq, sq_abs]
  rw [← room, sq]
  exact ⟨by exact_mod_cast isqrt_sq_le _, by exact_mod_cast lt_succ_isqrt_sq _⟩

theorem piStage_vd_natAbs_le (e : MotorEntry) (r : Regulator) (ld : LimitedDemand) (h : Nat) :
    (piStage e r ld h).vd.natAbs ≤ e.mceil :=
  clamp_natAbs_le _ _

theorem piStage_vq_natAbs_le (e : MotorEntry) (r : Regulator) (ld : LimitedDemand) (h : Nat) :
    (piStage e r ld h).vq.natAbs ≤ voltageLeft e (piStage e r ld h).vd :=
  clamp_natAbs_le _ _

/-- The voltage of a PI stage lies within the circle of Mceil (R21). -/
theorem piStage_within_circle (e : MotorEntry) (r : Regulator) (ld : LimitedDemand) (h : Nat) :
    (piStage e r ld h).vd ^ 2 + (piStage e r ld h).vq ^ 2 ≤ (e.mceil : Int) ^ 2 := by
  obtain ⟨root, _⟩ := voltageLeft_sq (piStage_vd_natAbs_le e r ld h)
  have within : (piStage e r ld h).vq ^ 2 ≤ (voltageLeft e (piStage e r ld h).vd : Int) ^ 2 :=
    sq_le_sq.mpr (by
      rw [Nat.abs_cast, Int.abs_eq_natAbs]
      exact_mod_cast piStage_vq_natAbs_le e r ld h)
  rw [sq (voltageLeft e (piStage e r ld h).vd : Int)] at within
  linarith

/-- Settles O24: the answers of `execSample_answer`, the voltage bound of the PI stage, and R18 to R23 by the definitions. -/
theorem gatedSampleRegulates : Obligations.GatedSampleRegulates := by
  intro m f s t x run answered
  cases execSample_answer run (by simp [answered]) with
  | gated intD intQ sent =>
    obtain rfl : x = modulationOf f.seq (regulation m s t) (fluxAngle (s.ld m) (s.reg m).age) := by
      simpa [answered] using sent
    refine ⟨fun _ => ?_, fun off => nomatch off⟩
    have bound := piStage_vd_natAbs_le (s.act.motorEntry m)
      { t.reg m with intD := (s.reg m).intD, intQ := (s.reg m).intQ } (s.ld m) t.tl.h
    obtain ⟨root, rootNext⟩ := voltageLeft_sq bound
    refine ⟨intD, (regulation m s t).vd, (regulation m s t).vq, voltageLeft (s.act.motorEntry m) (regulation m s t).vd, ?_,
      root, rootNext, intQ, ?_, bound, piStage_within_circle _ _ _ _, rfl, rfl⟩
    · rw [intD]; rfl
    · rw [intQ]; rfl
  | off integrators sent =>
    obtain rfl : x = gatesOff f.seq := by simpa [answered] using sent
    refine ⟨fun on => absurd on Bool.false_ne_true, fun _ => ?_⟩
    cases integrators with
    | kept intD intQ => exact .inl ⟨intD, intQ⟩
    | cleared before after intD intQ => exact .inr ⟨before, after, intD, intQ⟩

end Sys2Proof.Machine
end

section
/-! SUPPORT. O28: the limit of a motor under its factors (R32 to R34), and the sharing of the total between two demands (R35). A factor
of at most 32767 raises no limit (`scaleLimit_le`); that Fv and Fc are such factors follows from the ranges that the bank invariant keeps
(`BankInv.le_hi`). -/

namespace Sys2Proof.Machine

/-! ## The range of a stored field (R169) -/

theorem FieldSpec.limit_le {f : FieldSpec} (range : f.lo ≤ f.hi) (x : Int) : f.limit x ≤ f.hi := by
  unfold FieldSpec.limit
  dsimp only
  split <;> omega

/-- In a bank within its ranges, limiting an entry's fields changes none. -/
theorem Tables.limitFields_eq_self {b : Tables} (limited : b.limited = true) {t : TableId} {i : Nat} (index : i < 31)
    {fs : List FieldSpec} {xs : List Int} (entry : b.entry t i = some (fs, xs)) : limitFields fs xs = xs := by
  have fits := List.all_eq_true.mp (List.all_eq_true.mp limited t (by cases t <;> decide)) i (List.mem_range.mpr index)
  rw [entry] at fits
  exact eq_of_beq fits

/-- A field of the active bank is at most the highest value of its range. -/
theorem BankInv.le_hi {s : State} (bank : BankInv s) {t : TableId} {i : Nat} (index : i < 31) {fs : List FieldSpec} {xs : List Int}
    (entry : s.act.entry t i = some (fs, xs)) {n : Nat} {f : FieldSpec} {x : Int} (spec : fs[n]? = some f) (value : xs[n]? = some x)
    (range : f.lo ≤ f.hi) : x ≤ f.hi := by
  have kept : (limitFields fs xs)[n]? = xs[n]? := by rw [Tables.limitFields_eq_self bank.activeLimited index entry]
  have fixed : f.limit x = x := by simpa [limitFields, List.getElem?_zipWith, spec, value] using kept
  exact fixed ▸ FieldSpec.limit_le range x

/-! ## The band (R56) -/

theorem countBelow_le_length (period : Nat) (thresholds : List Nat) : countBelow period thresholds ≤ thresholds.length :=
  List.length_filter_le _ _

theorem State.torqueBand_lt (s : State) : s.torqueBand < 8 := by
  unfold State.torqueBand
  split
  · exact Nat.lt_succ_of_le (countBelow_le_length _ _)
  all_goals decide

@[simp] theorem State.bandIndex_val (s : State) : s.bandIndex.val = s.torqueBand := Nat.mod_eq_of_lt s.torqueBand_lt

/-! ## One factor (R33) -/

theorem scaleLimit_eq (l factor : Nat) : scaleLimit l factor = (l * factor + 16384) / 32768 := by
  unfold scaleLimit rounded
  omega

/-- A factor of at most 32767 does not raise a limit. -/
theorem scaleLimit_le (l : Nat) {factor : Nat} (range : factor ≤ 32767) : scaleLimit l factor ≤ l := by
  have product : l * factor ≤ l * 32767 := Nat.mul_le_mul_left l range
  rw [scaleLimit_eq]
  omega

/-- The fields of the VIBRATION scalars hold the derate factors from field 9 on (R167). -/
theorem VibrationScalars.derate_field (e : VibrationScalars) (v : Grade) :
    e.toFields[9 + v.val]? = some (e.derate[v] : Int) ∧ vibrationScalarFields[9 + v.val]? = some q15Range := by
  fin_cases v <;> exact ⟨rfl, rfl⟩

theorem State.factorV_le {s : State} (bank : BankInv s) : s.factorV ≤ 32767 := by
  obtain ⟨value, spec⟩ := s.act.vibration.scalars.derate_field s.vm.v
  have bound : (s.factorV : Int) ≤ 32767 := bank.le_hi (t := .vibration) (i := 8) (by decide) rfl spec value (by decide)
  exact_mod_cast bound

theorem State.derateAction_le {s : State} (bank : BankInv s) : s.act.torque.scalars.derateAction ≤ 32767 := by
  have bound : (s.act.torque.scalars.derateAction : Int) ≤ 32767 :=
    bank.le_hi (t := .torque) (i := 8) (n := 6) (f := q15Range) (by decide) rfl rfl rfl (by decide)
  exact_mod_cast bound

/-! ## Fc follows the causes acting at Derate (R33) -/

theorem State.present_iff {s : State} {c : Cause} : s.present c = true ↔ s.tu.active.has c = true ∨ s.tu.latched.has c = true :=
  Bool.or_eq_true_iff

theorem State.anyActing_iff {s : State} {a : Action} :
    s.anyActing a = true ↔ ∃ c, (s.tu.active.has c = true ∨ s.tu.latched.has c = true) ∧ s.acting c = a := by
  simp [State.anyActing, State.present_iff]

theorem State.factorC_of_acting {s : State}
    (acting : ∃ c, (s.tu.active.has c = true ∨ s.tu.latched.has c = true) ∧ s.acting c = .derate) :
    s.factorC = s.act.torque.scalars.derateAction :=
  if_pos (State.anyActing_iff.mpr acting)

theorem State.factorC_of_not_acting {s : State}
    (noCause : ∀ c, s.tu.active.has c = true ∨ s.tu.latched.has c = true → s.acting c ≠ .derate) : s.factorC = 32767 :=
  if_neg fun any => by
    obtain ⟨c, present, acting⟩ := State.anyActing_iff.mp any
    exact noCause c present acting

theorem State.factorC_le {s : State} (bank : BankInv s) : s.factorC ≤ 32767 := by
  unfold State.factorC
  split
  · exact State.derateAction_le bank
  · exact Nat.le_refl _

/-! ## The limit (R32 to R34) -/

/-- The band limit under the three factors, before the overload step. -/
def State.reducedLimit (s : State) (m : Motor) : Nat :=
  scaleLimit (scaleLimit (scaleLimit (s.act.torque.bandLimit s.bandIndex m) s.factorV) (s.reg m).ft) s.factorC

theorem State.limitOf_of_latch_clear {s : State} (clear : s.tl.latch = false) (m : Motor) : s.limitOf m = s.reducedLimit m := by
  simp [State.limitOf, State.reducedLimit, clear]

theorem State.limitOf_of_latch_set {s : State} (overload : s.tl.latch = true) (m : Motor) :
    s.limitOf m = min (s.reducedLimit m) (s.act.torque.scalars.lcont m) := by
  simp [State.limitOf, State.reducedLimit, overload]

theorem State.limitOf_le_reducedLimit (s : State) (m : Motor) : s.limitOf m ≤ s.reducedLimit m := by
  cases latch : s.tl.latch with
  | false => exact (State.limitOf_of_latch_clear latch m).le
  | true => exact State.limitOf_of_latch_set latch m ▸ Nat.min_le_left _ _

/-! ## Sharing the total (R35) -/

theorem shareTotal_of_le {sum total : Nat} (fits : sum ≤ total) (iq : Int) : shareTotal iq total sum = iq :=
  if_neg (Nat.not_lt.mpr fits)

theorem shareTotal_of_lt {sum total : Nat} (above : total < sum) (iq : Int) :
    shareTotal iq total sum = (iq * total).tdiv sum :=
  if_pos above

theorem natAbs_shareTotal_of_lt {sum total : Nat} (above : total < sum) (iq : Int) :
    (shareTotal iq total sum).natAbs = iq.natAbs * total / sum := by
  rw [shareTotal_of_lt above, Int.natAbs_tdiv, Int.natAbs_mul, Int.natAbs_natCast, Int.natAbs_natCast]
  rfl

theorem shareTotal_natAbs_le (iq : Int) (total sum : Nat) : (shareTotal iq total sum).natAbs ≤ iq.natAbs := by
  rcases Nat.lt_or_ge total sum with above | fits
  · rw [natAbs_shareTotal_of_lt above]
    exact Nat.div_le_of_le_mul (by rw [Nat.mul_comm sum]; exact Nat.mul_le_mul_left _ above.le)
  · rw [shareTotal_of_le fits]

theorem shareTotal_nonneg {iq : Int} (sign : 0 ≤ iq) (total sum : Nat) : 0 ≤ shareTotal iq total sum := by
  unfold shareTotal
  split
  · exact Int.tdiv_nonneg (Int.mul_nonneg sign (Int.natCast_nonneg _)) (Int.natCast_nonneg _)
  · exact sign

theorem shareTotal_neg (iq : Int) (total sum : Nat) : shareTotal (-iq) total sum = -shareTotal iq total sum := by
  unfold shareTotal
  split
  · rw [Int.neg_mul, Int.neg_tdiv]
  · rfl

theorem shareTotal_nonpos {iq : Int} (sign : iq ≤ 0) (total sum : Nat) : shareTotal iq total sum ≤ 0 := by
  have mirrored := shareTotal_nonneg (iq := -iq) (by omega) total sum
  rw [shareTotal_neg] at mirrored
  omega

/-- Two shares rounded down lose less than one unit each, and their loss is a whole number: at most one. -/
theorem shares_add_bounds {x y : Nat} (total : Nat) (pos : 0 < x + y) :
    x * total / (x + y) + y * total / (x + y) ≤ total ∧ total - 1 ≤ x * total / (x + y) + y * total / (x + y) := by
  have whole : (x * total + y * total) / (x + y) = total := by
    rw [← Nat.add_mul]
    exact Nat.mul_div_cancel_left total pos
  have carry := Nat.add_div (a := x * total) (b := y * total) pos
  rw [whole] at carry
  generalize x * total / (x + y) = p, y * total / (x + y) = q at carry ⊢
  split at carry <;> omega

/-- The shares of a total that the demands exceed. -/
theorem shareTotal_add_bounds {a b : Int} {total : Nat} (above : total < a.natAbs + b.natAbs) :
    (shareTotal a total (a.natAbs + b.natAbs)).natAbs + (shareTotal b total (a.natAbs + b.natAbs)).natAbs ≤ total ∧
      total - 1 ≤
        (shareTotal a total (a.natAbs + b.natAbs)).natAbs + (shareTotal b total (a.natAbs + b.natAbs)).natAbs := by
  rw [natAbs_shareTotal_of_lt above, natAbs_shareTotal_of_lt above]
  exact shares_add_bounds total (Nat.zero_lt_of_lt above)

theorem shareTotal_add_le (a b : Int) (total : Nat) :
    (shareTotal a total (a.natAbs + b.natAbs)).natAbs + (shareTotal b total (a.natAbs + b.natAbs)).natAbs ≤ total := by
  rcases Nat.lt_or_ge total (a.natAbs + b.natAbs) with above | fits
  · exact (shareTotal_add_bounds above).1
  · rwa [shareTotal_of_le fits, shareTotal_of_le fits]

/-- Settles O28: each factor by `scaleLimit_le` and the ranges of the bank, the latch by its two cases, and the shares by
`shareTotal_add_bounds`. -/
theorem limitsReduceAndShare : Obligations.LimitsReduceAndShare := by
  refine ⟨⟨?_, ?_, ?_⟩, ?_⟩
  · intro s m lb fv l1 l2
    have base : s.act.torque.bandLimit s.bandIndex m = lb := by cases m <;> rfl
    have stage1 : scaleLimit lb s.factorV = l1 := scaleLimit_eq _ _
    have stage2 : scaleLimit l1 (s.reg m).ft = l2 := scaleLimit_eq _ _
    have reduced : s.reducedLimit m = scaleLimit l2 s.factorC := by rw [State.reducedLimit, base, stage1, stage2]
    refine ⟨s.bandIndex_val, s.factorC, s.reducedLimit m, reduced.trans (scaleLimit_eq _ _), State.factorC_of_acting,
      State.factorC_of_not_acting, fun clear => State.limitOf_of_latch_clear clear m, fun overload => ?_, fun bank thermal => ?_⟩
    · rw [State.limitOf_of_latch_set overload]
      cases m <;> rfl
    · have le1 : l1 ≤ lb := stage1 ▸ scaleLimit_le lb (State.factorV_le bank)
      have le2 : l2 ≤ l1 := stage2 ▸ scaleLimit_le l1 thermal
      have le3 : s.reducedLimit m ≤ l2 := reduced ▸ scaleLimit_le l2 (State.factorC_le bank)
      exact ⟨le1, le2, le3, (s.limitOf_le_reducedLimit m).trans (le3.trans (le2.trans le1))⟩
  · intro x small
    omega
  · intro x large range
    omega
  · intro a b total sum a' b'
    have within : a'.natAbs + b'.natAbs ≤ total := shareTotal_add_le a b total
    exact ⟨fun fits => ⟨shareTotal_of_le fits a, shareTotal_of_le fits b⟩,
      fun above => ⟨shareTotal_of_lt above a, shareTotal_of_lt above b, (shareTotal_add_bounds above).2⟩,
      within, shareTotal_natAbs_le a total sum, shareTotal_natAbs_le b total sum,
      fun sign => shareTotal_nonneg sign total sum, fun sign => shareTotal_nonpos sign total sum,
      fun sign => shareTotal_nonneg sign total sum, fun sign => shareTotal_nonpos sign total sum,
      fun zero => by omega⟩

end Sys2Proof.Machine
end

section
/-! SUPPORT. O42: the judgement of the drive state against E (R101), the acting action of a cause (R93, R94), and E as the highest acting
action over the two sets (R98). Each row of R101's table that moves the drive is an equation of `State.judge` with the transition it makes;
the rows that do not are `State.judge_eq_self_of_` lemmas. -/

namespace Sys2Proof.Machine

/-! ## The acting action (R93, R94) -/

theorem Action.higher_trip (a : Action) : a.higher .trip = .trip := by cases a <;> rfl

theorem Action.higher_hold (a : Action) : a.higher .hold = if a = .trip then .trip else .hold := by cases a <;> rfl

theorem Action.higher_ignore (a : Action) : a.higher .ignore = a := by cases a <;> rfl

/-- R93's table, with the causes of each fixed minimum gathered. -/
theorem fixedMinimum_eq (c : Cause) :
    fixedMinimum c =
      if c.val ∈ [0, 4, 5, 6, 7, 10, 11, 25, 26, 28, 29] then .trip else if c.val = 24 then .hold else .ignore := by
  revert c
  decide

theorem State.acting_eq (s : State) (c : Cause) :
    s.acting c =
      if c.val ∈ [0, 4, 5, 6, 7, 10, 11, 25, 26, 28, 29] then .trip
      else if c.val = 24 then if (s.act.action[c]).action = .trip then .trip else .hold
      else (s.act.action[c]).action := by
  rw [State.acting, fixedMinimum_eq]
  split
  · exact Action.higher_trip _
  · split
    · exact Action.higher_hold _
    · exact Action.higher_ignore _

/-! ## E is the highest acting action (R98) -/

theorem State.code_le_effective_of_anyActing {s : State} {a : Action} (any : s.anyActing a = true) :
    a.code ≤ s.effective.code := by
  unfold State.effective
  cases a with
  | ignore => exact Nat.zero_le _
  | trip => simp only [any, if_true, Nat.le_refl]
  | notice | derate | hold =>
    simp only [any, if_true]
    split_ifs <;> decide

theorem State.acting_le_effective {s : State} {c : Cause} (present : s.tu.active.has c = true ∨ s.tu.latched.has c = true) :
    (s.acting c).code ≤ s.effective.code :=
  State.code_le_effective_of_anyActing (State.anyActing_iff.mpr ⟨c, present, rfl⟩)

theorem State.effective_eq_ignore_or_anyActing (s : State) : s.effective = .ignore ∨ s.anyActing s.effective = true := by
  unfold State.effective
  split_ifs with trip hold derate notice
  exacts [.inr trip, .inr hold, .inr derate, .inr notice, .inl rfl]

/-! ## The rows of the judgement (R101) -/

@[simp] theorem State.recomputeE_drive (s : State) : s.recomputeE.tu.drive = s.tu.drive := rfl

@[simp] theorem State.recomputeE_e (s : State) : s.recomputeE.tu.e = s.effective := rfl

@[simp] theorem State.moveTo_drive (s : State) (d : DriveState) : (s.moveTo d).tu.drive = d := rfl

theorem State.judge_of_trip {s : State} (untripped : s.tu.drive ≠ .tripped) (trip : s.tu.e = .trip) :
    s.judge = s.enterTripped := by
  unfold State.judge
  cases drive : s.tu.drive with
  | tripped => exact absurd drive untripped
  | stopped | run | hold => simp only [trip]

theorem State.judge_of_run_hold {s : State} (run : s.tu.drive = .run) (hold : s.tu.e = .hold) : s.judge = s.moveTo .hold := by
  simp only [State.judge, run, hold]

theorem State.judge_of_hold_below {s : State} (hold : s.tu.drive = .hold) (notTrip : s.tu.e ≠ .trip) (notHold : s.tu.e ≠ .hold) :
    s.judge = s.moveTo .run := by
  unfold State.judge
  cases e : s.tu.e with
  | trip => exact absurd e notTrip
  | hold => exact absurd e notHold
  | ignore | notice | derate => simp only [hold]

theorem State.judge_eq_self_of_stopped {s : State} (stopped : s.tu.drive = .stopped) (notTrip : s.tu.e ≠ .trip) : s.judge = s := by
  unfold State.judge
  cases e : s.tu.e with
  | trip => exact absurd e notTrip
  | ignore | notice | derate | hold => simp only [stopped]

theorem State.judge_eq_self_of_run {s : State} (run : s.tu.drive = .run) (notTrip : s.tu.e ≠ .trip) (notHold : s.tu.e ≠ .hold) :
    s.judge = s := by
  unfold State.judge
  cases e : s.tu.e with
  | trip => exact absurd e notTrip
  | hold => exact absurd e notHold
  | ignore | notice | derate => simp only [run]

theorem State.judge_eq_self_of_hold {s : State} (drive : s.tu.drive = .hold) (hold : s.tu.e = .hold) : s.judge = s := by
  simp only [State.judge, drive, hold]

theorem State.judge_eq_self_of_tripped {s : State} (tripped : s.tu.drive = .tripped) : s.judge = s := by
  simp only [State.judge, tripped]

theorem State.reconsider_drive_of_trip {s : State} (untripped : s.tu.drive ≠ .tripped) (trip : s.effective = .trip) :
    s.reconsider.tu.drive = .tripped := by
  rw [State.reconsider, State.judge_of_trip (s := s.recomputeE) untripped trip, State.enterTripped_drive]

/-- The judgement changes no more of the torque limiter than the two runs (R104). -/
theorem State.reconsider_holdFactor (s : State) : s.reconsider.tl.h = s.tl.h := by
  rw [s.reconsider_frame.tl]

/-- Settles O42: each row by the equation of `State.judge` for it, the acting actions by `State.acting_eq`, and E by
`State.acting_le_effective` and `State.effective_eq_ignore_or_anyActing`. -/
theorem driveIsJudgedAgainstE : Obligations.DriveIsJudgedAgainstE := by
  intro s t e
  refine ⟨fun stopped trip => ?_, fun stopped notTrip => ?_, fun run trip => ?_, fun run hold => ?_,
    fun run notTrip notHold => ?_, fun drive trip => ?_, fun drive hold => ?_, fun drive notTrip notHold => ?_,
    fun tripped => ?_, s.reconsider_holdFactor, s.acting_eq, fun c present => State.acting_le_effective present, ?_⟩
  · exact State.reconsider_drive_of_trip (by simp [stopped]) trip
  · exact State.judge_eq_self_of_stopped (s := s.recomputeE) stopped notTrip
  · exact State.reconsider_drive_of_trip (by simp [run]) trip
  · exact congrArg (·.tu.drive) (State.judge_of_run_hold (s := s.recomputeE) run hold)
  · exact State.judge_eq_self_of_run (s := s.recomputeE) run notTrip notHold
  · exact State.reconsider_drive_of_trip (by simp [drive]) trip
  · exact State.judge_eq_self_of_hold (s := s.recomputeE) drive hold
  · exact congrArg (·.tu.drive) (State.judge_of_hold_below (s := s.recomputeE) drive notTrip notHold)
  · exact State.judge_eq_self_of_tripped (s := s.recomputeE) tripped
  · exact s.effective_eq_ignore_or_anyActing.imp_right State.anyActing_iff.mp

end Sys2Proof.Machine
end

section
/-! SUPPORT. O56: the Requests that only read. What a Request answers without changing the state is one Reply on the state in which the
C-link has been heard (`State.request_of_answer`). READ STATUS: the 64 words of R175 one by one (`State.statusWords_eq`), where a field
packed with others into one word is a digit of that word (`packed_digit`). READ RECORD: the n-th newest record is the one with exactly n
newer ones (`newestFirst_getElem?`), since Valid records have distinct sequence numbers. -/

namespace Sys2Proof.Machine

/-! ## Fields packed into one word -/

section

variable {α : Type} {b : Nat} {pos val : α → Nat}

/-- The number with the digit `val x` in base `b` at the place `pos x`, for each `x` listed. -/
def packed (b : Nat) (pos val : α → Nat) (l : List α) : Nat := (l.map fun x => val x * b ^ pos x).sum

theorem packed_cons (x : α) (l : List α) : packed b pos val (x :: l) = val x * b ^ pos x + packed b pos val l := rfl

theorem foldl_eq_packed (l : List α) : l.foldl (fun n x => n + val x * b ^ pos x) 0 = packed b pos val l := by
  rw [packed, List.sum_eq_foldl_nat, List.foldl_map]

theorem pow_dvd_packed {k : Nat} {l : List α} (above : ∀ x ∈ l, k ≤ pos x) : b ^ k ∣ packed b pos val l := by
  refine List.dvd_sum fun y member => ?_
  obtain ⟨x, listed, rfl⟩ := List.mem_map.mp member
  exact Dvd.dvd.mul_left (Nat.pow_dvd_pow b (above x listed)) _

/-- With the head at the lowest place, the tail is a multiple of the next place's power. -/
theorem packed_cons_eq {x : α} {l : List α} (above : ∀ y ∈ l, pos x < pos y) :
    ∃ m, packed b pos val l = b ^ (pos x + 1) * m ∧ packed b pos val (x :: l) = val x * b ^ pos x + b ^ (pos x + 1) * m := by
  obtain ⟨m, tail⟩ := pow_dvd_packed (b := b) (val := val) above
  exact ⟨m, tail, by rw [packed_cons, tail]⟩

theorem mul_pow_lt_pow_succ {v : Nat} (small : v < b) (p : Nat) : v * b ^ p < b ^ (p + 1) := by
  rw [Nat.pow_succ, Nat.mul_comm]
  exact Nat.mul_lt_mul_of_pos_left small (Nat.pow_pos (Nat.zero_lt_of_lt small))

/-- The digit at the place of a listed field is that field. -/
theorem packed_digit {l : List α} (rising : l.Pairwise fun x y => pos x < pos y) (small : ∀ x ∈ l, val x < b) {x : α}
    (listed : x ∈ l) : packed b pos val l / b ^ pos x % b = val x := by
  induction l with
  | nil => cases listed
  | cons y rest ih =>
    obtain ⟨above, rising⟩ := List.pairwise_cons.mp rising
    obtain ⟨head, small⟩ := List.forall_mem_cons.mp small
    obtain ⟨m, tail, whole⟩ := packed_cons_eq (b := b) (val := val) above
    have base : 0 < b := Nat.zero_lt_of_lt head
    rw [whole]
    rcases List.mem_cons.mp listed with rfl | later
    · rw [Nat.pow_succ, Nat.mul_assoc, Nat.mul_comm (val x), ← Nat.mul_add, Nat.mul_div_cancel_left _ (Nat.pow_pos base),
        Nat.add_mul_mod_self_left, Nat.mod_eq_of_lt head]
    · obtain ⟨d, place⟩ := Nat.exists_eq_add_of_lt (above x later)
      have drop : (val y * b ^ pos y + b ^ (pos y + 1) * m) / b ^ pos x = packed b pos val rest / b ^ pos x := by
        rw [tail, show pos x = pos y + 1 + d by omega, Nat.pow_add b (pos y + 1), ← Nat.div_div_eq_div_mul,
          ← Nat.div_div_eq_div_mul, Nat.add_mul_div_left _ _ (Nat.pow_pos base),
          Nat.div_eq_of_lt (mul_pow_lt_pow_succ head _), Nat.zero_add, Nat.mul_div_cancel_left _ (Nat.pow_pos base)]
      rw [drop]
      exact ih rising small later

theorem packed_lt {l : List α} (rising : l.Pairwise fun x y => pos x < pos y) (small : ∀ x ∈ l, val x < b) (base : 0 < b)
    {k : Nat} (below : ∀ x ∈ l, pos x < k) : packed b pos val l < b ^ k := by
  induction l with
  | nil => exact Nat.pow_pos base
  | cons y rest ih =>
    obtain ⟨above, rising⟩ := List.pairwise_cons.mp rising
    obtain ⟨head, small⟩ := List.forall_mem_cons.mp small
    obtain ⟨place, below⟩ := List.forall_mem_cons.mp below
    obtain ⟨m, tail, whole⟩ := packed_cons_eq (b := b) (val := val) above
    have bound := ih rising small below
    obtain ⟨c, power⟩ := Nat.pow_dvd_pow b place
    rw [tail, power] at bound
    rw [whole, power]
    have room : m + 1 ≤ c := Nat.lt_of_mul_lt_mul_left bound
    calc val y * b ^ pos y + b ^ (pos y + 1) * m
      _ < b ^ (pos y + 1) + b ^ (pos y + 1) * m := Nat.add_lt_add_right (mul_pow_lt_pow_succ head _) _
      _ = b ^ (pos y + 1) * (m + 1) := by ring
      _ ≤ b ^ (pos y + 1) * c := Nat.mul_le_mul_left _ room

end

/-- The members of a group of `k` consecutive numbers stand at rising places in their group. -/
theorem pairwise_mod_of_group (n k i : Nat) :
    ((List.finRange n).filter fun c => c.val / k == i).Pairwise fun c d => c.val % k < d.val % k := by
  refine ((List.pairwise_lt_finRange n).filter _).imp_of_mem fun {c d} first second lt => ?_
  have group : c.val / k = i := by simpa using first
  have group' : d.val / k = i := by simpa using second
  have split := Nat.div_add_mod c.val k
  have split' := Nat.div_add_mod d.val k
  rw [group] at split
  rw [group'] at split'
  have below : c.val < d.val := lt
  omega

/-- A word of up to `k` fields in base `b`, one for each member of a group of `k` numbers: the field of `c` at its place. -/
theorem natWord_packed_digit {n b k : Nat} {val : Fin n → Nat} (small : ∀ c, val c < b) (places : 0 < k) (fits : b ^ k ≤ 65536)
    (c : Fin n) :
    (natWord (packed b (fun c => c.val % k) val ((List.finRange n).filter fun d => d.val / k == c.val / k))).toNat
      / b ^ (c.val % k) % b = val c := by
  have rising := pairwise_mod_of_group n k (c.val / k)
  have bound := packed_lt rising (fun x _ => small x) (Nat.zero_lt_of_lt (small c)) fun x _ => Nat.mod_lt x.val places
  have word : (natWord (packed b (fun c => c.val % k) val ((List.finRange n).filter fun d => d.val / k == c.val / k))).toNat =
      packed b (fun c => c.val % k) val ((List.finRange n).filter fun d => d.val / k == c.val / k) :=
    Nat.mod_eq_of_lt (Nat.lt_of_lt_of_le bound fits)
  rw [word]
  exact packed_digit rising (fun x _ => small x) (by simp)

/-! ## The words of READ STATUS (R175) -/

theorem Action.code_lt (a : Action) : a.code < 8 := by cases a <;> decide

/-- The field of cause `c` in its word of words 5 to 11 is its acting action. -/
theorem State.actingWord_field (s : State) (c : Fin 31) :
    (s.actingWord (c.val / 5)).toNat / 8 ^ (c.val % 5) % 8 = (s.acting c).code := by
  have word : s.actingWord (c.val / 5) = natWord (packed 8 (fun c : Fin 31 => c.val % 5) (fun c => (s.acting c).code)
      ((List.finRange 31).filter fun d => d.val / 5 == c.val / 5)) := by
    unfold State.actingWord
    simp only [Nat.pow_mul, ← foldl_eq_packed]
  rw [word]
  exact natWord_packed_digit (fun c => (s.acting c).code_lt) (by decide) (by decide) c

theorem Channel.statusCode_eq (c : Channel) : c.statusCode = (c.grade.map Fin.val).getD 15 := by
  unfold Channel.statusCode
  cases c.grade <;> rfl

theorem Channel.statusCode_lt (c : Channel) : c.statusCode < 16 := by
  unfold Channel.statusCode
  split <;> omega

/-- The field of channel `c` in its word of words 41 and 42 is its state. -/
theorem State.channelWord_field (s : State) (c : Fin 8) :
    (s.channelWord (c.val / 4)).toNat / 16 ^ (c.val % 4) % 16 = (s.vm.channels[c].grade.map Fin.val).getD 15 := by
  rw [State.channelWord, foldl_eq_packed, ← Channel.statusCode_eq]
  exact natWord_packed_digit (fun c => s.vm.channels[c].statusCode_lt) (by decide) (by decide) c

theorem flag_mul (x : Bool) (n : Nat) : flag x * n = if x then n else 0 := by cases x <;> simp [flag]

theorem flag_lt_two (x : Bool) : flag x < 2 := by cases x <;> decide

theorem SensorCheck.bits_eq (u : SensorCheck) (f : ChannelCheck → Bool) :
    u.bits f = packed 2 Fin.val (fun c => flag (f u.checks[c])) (List.finRange 8) :=
  foldl_eq_packed _

theorem SensorCheck.bits_lt (u : SensorCheck) (f : ChannelCheck → Bool) : u.bits f < 2 ^ 8 := by
  rw [SensorCheck.bits_eq]
  exact packed_lt (List.pairwise_lt_finRange 8) (fun _ _ => flag_lt_two _) (by decide) fun c _ => c.isLt

theorem SensorCheck.testBit_bits (u : SensorCheck) (f : ChannelCheck → Bool) (c : Fin 8) :
    (u.bits f).testBit c.val = f u.checks[c] := by
  have digit := packed_digit (b := 2) (val := fun c => flag (f u.checks[c])) (List.pairwise_lt_finRange 8)
    (fun _ _ => flag_lt_two _) (List.mem_finRange c)
  rw [Nat.testBit_eq_decide_div_mod_eq, SensorCheck.bits_eq, digit]
  cases f u.checks[c] <;> rfl

/-- Word 43: the wire-fault flags above the flat flags. -/
theorem SensorCheck.flagWord_bits (u : SensorCheck) (c : Fin 8) :
    (natWord (u.bits ChannelCheck.wireFault * 256 + u.bits ChannelCheck.flat)).getLsbD (8 + c.val) = u.checks[c].wireFault ∧
      (natWord (u.bits ChannelCheck.wireFault * 256 + u.bits ChannelCheck.flat)).getLsbD c.val = u.checks[c].flat := by
  have place (j : Nat) := Nat.testBit_two_pow_mul_add (u.bits ChannelCheck.wireFault) (u.bits_lt ChannelCheck.flat) j
  rw [natWord, Nat.mul_comm, show 256 = 2 ^ 8 from rfl, BitVec.getLsbD_ofNat, BitVec.getLsbD_ofNat, place, place]
  simp [u.testBit_bits, show 8 + c.val < 16 by omega, show c.val < 16 by omega]

theorem worstCode_eq (x : Option (Fin 8)) : worstCode x = (x.map Fin.val).getD 15 := by cases x <;> rfl

/-- The words of READ STATUS one by one, in R175's order. -/
theorem State.statusWords_eq (s : State) :
    s.statusWords =
      let p := s.me.pendingSwitch
      let high (n : Nat) : Word := natWord (n / 65536)
      let link (l : LinkId) : Word :=
        natWord (flag (s.relockActs l) * 32768 + (s.link l).good * 256 + (s.link l).state.code)
      let errors (l : LinkId) : Word := natWord (s.link l).errors
      let rms (c : Fin 8) : Word := natWord s.vm.channels[c].rmsLast
      let peak (c : Fin 8) : Word := natWord s.vm.channels[c].peakLast
      [high s.tu.active.toNat, natWord s.tu.active.toNat, high s.tu.latched.toNat, natWord s.tu.latched.toNat,
        natWord (s.tu.drive.code * 16384 + s.tu.e.code * 2048 + s.tu.reason.code * 256 + s.tu.restart.code * 16
          + flag s.me.timeSet),
        s.actingWord 0, s.actingWord 1, s.actingWord 2, s.actingWord 3, s.actingWord 4, s.actingWord 5, s.actingWord 6,
        high s.me.seconds, natWord s.me.seconds, s.me.mask,
        natWord (flag p.line * 32768 + flag p.action * 16384 + flag p.vibration * 8192 + flag p.torque * 4096
          + flag p.motor * 2048 + s.me.replies.length * 256 + s.me.low.length * 16 + s.me.high.length),
        link .C, errors .C, link .A, errors .A, link .B, errors .B, link .S, errors .S,
        natWord (flag s.tl.latch * 32768 + flag s.rs.gathering.isSome * 256 + s.rs.queue.length * 32
          + s.rs.state.code * 4 + s.cb.state.code),
        high s.rs.nextSeq, natWord s.rs.nextSeq, natWord s.rs.writeSlot.val, s.regA.statusWord, s.regB.statusWord,
        intWord s.regA.offsetA, intWord s.regA.offsetB, intWord s.regB.offsetA, intWord s.regB.offsetB,
        natWord (s.mt.state.code * 256 + s.torqueBand * 16 + s.vibrationBand),
        high s.mt.lastPeriod, natWord s.mt.lastPeriod, high s.mt.silence, natWord s.mt.silence,
        natWord (s.vm.v.val * 256 + worstCode s.worst), natWord s.vm.window, s.channelWord 0, s.channelWord 1,
        natWord (s.scu.bits ChannelCheck.wireFault * 256 + s.scu.bits ChannelCheck.flat),
        natWord (flag s.scu.refFail * 32768 + flag s.scu.wire.isSome * 16384
          + flag ((s.scu.wire.map WireCheck.inject).getD false) * 8192
          + ((s.scu.wire.map fun w => w.channel.val).getD 0)),
        natWord ((s.scu.wire.map WireCheck.count).getD 0),
        rms 0, rms 1, rms 2, rms 3, rms 4, rms 5, rms 6, rms 7,
        peak 0, peak 1, peak 2, peak 3, peak 4, peak 5, peak 6, peak 7,
        high s.tl.acc, natWord s.tl.acc] := by
  simp [State.statusWords, causeWords, wideWords, State.statusLinkWords, List.finRange, List.range, List.range.loop]

/-- The C-link's timer is in no word. -/
theorem State.statusWords_heardC (s : State) : s.heardC.statusWords = s.statusWords := by
  rw [State.statusWords_eq, State.statusWords_eq]
  rfl

theorem State.statusWords_length (s : State) : s.statusWords.length = 64 := by
  rw [s.statusWords_eq]
  rfl

/-- Words 5 to 11 hold the acting actions, five causes a word. -/
theorem State.statusWords_acting (s : State) (c : Fin 31) :
    ((s.statusWords.getD (5 + c.val / 5) 0).toNat / 8 ^ (c.val % 5)) % 8 = (s.acting c).code := by
  have word {i : Nat} (place : i < 7) : s.statusWords.getD (5 + i) 0 = s.actingWord i := by
    rw [s.statusWords_eq]
    interval_cases i <;> rfl
  rw [word (by omega), s.actingWord_field]

/-- Words 16 to 23 hold two words of each link. -/
theorem State.statusWords_links (s : State) :
    (s.statusWords.drop 16).take 8 =
      s.statusLinkWords .C ++ s.statusLinkWords .A ++ s.statusLinkWords .B ++ s.statusLinkWords .S := by
  rw [s.statusWords_eq]
  rfl

/-- Words 28 and 29 hold the two motors' calibrations. -/
theorem State.statusWords_motors (s : State) :
    (s.statusWords.drop 28).take 2 = [s.regA.statusWord, s.regB.statusWord] := by
  rw [s.statusWords_eq]
  rfl

/-- Word 39 holds the overall state above the worst channel. -/
theorem State.statusWords_overall (s : State) :
    s.statusWords[39]? = some (BitVec.ofNat 16 (s.vm.v.val * 256 + (s.worst.map Fin.val).getD 15)) := by
  rw [s.statusWords_eq, ← worstCode_eq]
  rfl

/-- Words 41 and 42 hold the channels' states, four a word. -/
theorem State.statusWords_grades (s : State) (c : Fin 8) :
    ((s.statusWords.getD (41 + c.val / 4) 0).toNat / 16 ^ (c.val % 4)) % 16 = (s.vm.channels[c].grade.map Fin.val).getD 15 := by
  have word {i : Nat} (place : i < 2) : s.statusWords.getD (41 + i) 0 = s.channelWord i := by
    rw [s.statusWords_eq]
    interval_cases i <;> rfl
  rw [word (by omega), s.channelWord_field]

/-- Word 43 holds the flags of the sensor checks. -/
theorem State.statusWords_checks (s : State) (c : Fin 8) :
    (s.statusWords.getD 43 0).getLsbD (8 + c.val) = s.scu.checks[c].wireFault ∧
      (s.statusWords.getD 43 0).getLsbD c.val = s.scu.checks[c].flat := by
  have word : s.statusWords.getD 43 0 = natWord (s.scu.bits ChannelCheck.wireFault * 256 + s.scu.bits ChannelCheck.flat) := by
    rw [s.statusWords_eq]
    rfl
  rw [word]
  exact s.scu.flagWord_bits c

/-- Words 44 and 45 read the wire check in flight. -/
theorem State.statusWords_wire (s : State) :
    s.statusWords[44]? = some (natWord (flag s.scu.refFail * 32768 + flag s.scu.wire.isSome * 16384
        + flag ((s.scu.wire.map WireCheck.inject).getD false) * 8192
        + ((s.scu.wire.map fun w => w.channel.val).getD 0))) ∧
      s.statusWords[45]? = some (natWord ((s.scu.wire.map WireCheck.count).getD 0)) := by
  rw [s.statusWords_eq]
  exact ⟨rfl, rfl⟩

/-- Words 44 and 45 with no wire check in flight (log entry 38). -/
theorem State.statusWords_noWireCheck {s : State} (wire : s.scu.wire = none) :
    s.statusWords[44]? = some (BitVec.ofNat 16 (flag s.scu.refFail * 2 ^ 15)) ∧ s.statusWords[45]? = some 0 := by
  simp [s.statusWords_wire, wire, natWord, flag]

/-- Words 44 and 45 with a wire check in flight. -/
theorem State.statusWords_wireCheck {s : State} {w : WireCheck} (wire : s.scu.wire = some w) :
    s.statusWords[44]? =
        some (BitVec.ofNat 16 (flag s.scu.refFail * 2 ^ 15 + 16384 + flag w.inject * 2 ^ 13 + w.channel.val)) ∧
      s.statusWords[45]? = some (BitVec.ofNat 16 w.count) := by
  simp [s.statusWords_wire, wire, natWord, flag]

/-- Words 46 to 61 hold the channels' last windows. -/
theorem State.statusWords_windows (s : State) (c : Fin 8) :
    s.statusWords[46 + c.val]? = some (BitVec.ofNat 16 s.vm.channels[c].rmsLast) ∧
      s.statusWords[54 + c.val]? = some (BitVec.ofNat 16 s.vm.channels[c].peakLast) := by
  rw [s.statusWords_eq]
  fin_cases c <;> exact ⟨rfl, rfl⟩

/-! ## A Request that only reads -/

theorem fillWords_of_length {n : Nat} {ws : List Word} (length : ws.length = n) : fillWords n ws = ws := by
  simp [fillWords, length]

/-- A Request whose body answers with the state as it finds it leaves no more than the link heard and one Reply queued. -/
theorem State.request_of_answer {s : State} (ready : s.ready) {tag : Byte} {code : Nat} {body : State → Answer} {status : Status}
    {result : List Word} (answers : body s.heardC = s.heardC.answer status result) :
    s.request tag code body =
      s.heardC.withReply tag (BitVec.ofNat 8 code) status (fillWords (resultWords code) result) := by
  rw [State.request_ready ready, answers]
  exact State.queueReply_eq _ _ _ _ _

theorem execReadStatus_ready {s : State} (ready : s.ready) (tag : Byte) :
    exec (.readStatus tag) s = .next (s.heardC.withReply tag 1 .done s.heardC.statusWords) := by
  have reply := State.request_of_answer ready (tag := tag) (code := 1) (body := fun s => s.answer .done s.statusWords) rfl
  rw [show resultWords 1 = 64 from rfl, fillWords_of_length (State.statusWords_length _)] at reply
  exact congrArg _ reply

/-! ## READ CAPTURE (R130) -/

theorem execReadCapture_notFrozen {s : State} (ready : s.ready) (tag : Byte) (n : Word) (state : s.cb.state ≠ .frozen) :
    exec (.readCapture tag n) s = .next (s.heardC.withReply tag 11 .refusedState (List.replicate 21 0)) :=
  congrArg Host.Outcome.next (State.request_of_answer (result := []) ready (by exact if_pos state))

theorem execReadCapture_beyond {s : State} (ready : s.ready) (tag : Byte) {n : Word} (state : s.cb.state = .frozen)
    (beyond : s.cb.valid ≤ n.toNat) :
    exec (.readCapture tag n) s = .next (s.heardC.withReply tag 11 .badIndex (List.replicate 21 0)) :=
  congrArg Host.Outcome.next
    (State.request_of_answer (result := []) ready (by exact (if_neg (not_not_intro state)).trans (if_pos beyond)))

theorem execReadCapture_valid {s : State} (ready : s.ready) (tag : Byte) {n : Word} {x : Snapshot} (state : s.cb.state = .frozen)
    (valid : n.toNat < s.cb.valid) (slot : slotAt (s.cb.validSlot n.toNat) s.cb.slots = some x) :
    exec (.readCapture tag n) s = .next (s.heardC.withReply tag 11 .done
      (x.words ++ [natWord s.cb.valid, natWord ((if s.cb.short then 32768 else 0) + s.cb.causes.length)]
        ++ s.cb.causes.map (fun y => natWord y.code) ++ List.replicate (4 - s.cb.causes.length) 0)) := by
  have snapshot : s.cb.snapshotAt (s.cb.validSlot n.toNat) = x := by rw [CaptureBuffer.snapshotAt, slot, Option.getD_some]
  have length : (x.words ++ [natWord s.cb.valid, natWord (flag s.cb.short * 32768 + s.cb.causes.length)]
      ++ s.cb.causes.map (fun y => natWord y.code)).length = 17 + s.cb.causes.length := by
    simp [Snapshot.words, MotorReading.words]
    omega
  have room : 4 - s.cb.causes.length = 21 - (17 + s.cb.causes.length) := by omega
  rw [← flag_mul, room, ← length, ← snapshot]
  exact congrArg Host.Outcome.next (State.request_of_answer ready
    (by exact (if_neg (not_not_intro state)).trans (if_neg (Nat.not_le.mpr valid))))

/-! ## The Valid records by falling sequence number (R146) -/

theorem mem_of_slotAt {α : Type} {n : Nat} {v : α} {x : Slots α} (slot : slotAt n x = some v) : (n, v) ∈ x := by
  induction x with
  | nil => cases slot
  | cons p rest ih =>
    unfold slotAt at slot
    split at slot
    next same =>
      cases slot
      exact same ▸ List.mem_cons_self
    next => exact List.mem_cons_of_mem _ (ih slot)

theorem slotAt_of_mem {α : Type} {n : Nat} {v : α} {x : Slots α} (ok : slotsOk x = true) (listed : (n, v) ∈ x) :
    slotAt n x = some v := by
  induction x with
  | nil => cases listed
  | cons p rest ih =>
    obtain ⟨k, u⟩ := p
    obtain ⟨above, ok⟩ := slotsOk_cons.mp ok
    rcases List.mem_cons.mp listed with same | later
    · cases same
      exact if_pos rfl
    · exact (if_neg (Nat.ne_of_lt (above _ later))).trans (ih ok later)

theorem mem_validRecords_iff_mem {i q : Nat} {r : Record} {array : Slots ArraySlot} :
    (i, q, r) ∈ validRecords array ↔ (i, .valid q r) ∈ array := by
  induction array with
  | nil => simp [validRecords]
  | cons p rest ih =>
    obtain ⟨k, _ | ⟨q', r'⟩⟩ := p <;> simp [validRecords, ih]

theorem mem_validRecords {i q : Nat} {r : Record} {array : Slots ArraySlot} (ok : slotsOk array = true) :
    (i, q, r) ∈ validRecords array ↔ slotAt i array = some (.valid q r) :=
  mem_validRecords_iff_mem.trans ⟨slotAt_of_mem ok, mem_of_slotAt⟩

theorem length_validRecords_le (array : Slots ArraySlot) : (validRecords array).length ≤ array.length := by
  induction array with
  | nil => exact Nat.le_refl 0
  | cons p rest ih =>
    obtain ⟨k, _ | ⟨q, r⟩⟩ := p
    · exact Nat.le_succ_of_le ih
    · exact Nat.succ_le_succ ih

theorem nodup_slot_numbers {α : Type} {x : Slots α} (ok : slotsOk x = true) : (x.map Prod.fst).Nodup := by
  induction x with
  | nil => exact List.nodup_nil
  | cons p rest ih =>
    obtain ⟨above, ok⟩ := slotsOk_cons.mp ok
    refine List.nodup_cons.mpr ⟨fun again => ?_, ih ok⟩
    obtain ⟨q, listed, same⟩ := List.mem_map.mp again
    exact absurd (above q listed) (by simp [same])

theorem Slots.Ok.length_le {α : Type} {n : Nat} {x : Slots α} (ok : Slots.Ok n x) : x.length ≤ n := by
  have numbers : x.map Prod.fst ⊆ List.range n := fun k listed => by
    obtain ⟨p, member, rfl⟩ := List.mem_map.mp listed
    exact List.mem_range.mpr (ok.2 p member)
  simpa using (List.subperm_of_subset (nodup_slot_numbers ok.1) numbers).length_le

/-- Valid records of one sequence number are one record in one slot (R141). -/
theorem StoreInv.eq_of_seq_eq {s : State} (stores : StoreInv s) {x y : Nat × Nat × Record} (hx : x ∈ validRecords s.rs.array)
    (hy : y ∈ validRecords s.rs.array) (same : x.2.1 = y.2.1) : x = y := by
  obtain ⟨i, q, r⟩ := x
  obtain ⟨j, q', r'⟩ := y
  obtain rfl : q = q' := same
  have slot := (mem_validRecords stores.array.1).mp hx
  have slot' := (mem_validRecords stores.array.1).mp hy
  obtain rfl := stores.distinct i j q r r' slot slot'
  rw [slot] at slot'
  cases slot'
  rfl

/-- The order of `insertNewest`: the first has no lower a sequence number than the second. -/
abbrev notOlder (x y : Nat × Nat × Record) : Prop := y.2.1 ≤ x.2.1

theorem insertNewest_eq (x : Nat × Nat × Record) (l : List (Nat × Nat × Record)) :
    insertNewest x l = l.orderedInsert notOlder x := by
  induction l with
  | nil => rfl
  | cons y rest ih => rw [insertNewest, List.orderedInsert_cons, ih]

theorem newestFirst_eq (array : Slots ArraySlot) : newestFirst array = (validRecords array).insertionSort notOlder := by
  unfold newestFirst List.insertionSort
  congr
  funext x l
  exact insertNewest_eq x l

theorem newestFirst_perm (array : Slots ArraySlot) : (newestFirst array).Perm (validRecords array) := by
  rw [newestFirst_eq]
  exact List.perm_insertionSort _ _

theorem newestFirst_pairwise (array : Slots ArraySlot) : (newestFirst array).Pairwise notOlder := by
  have : Std.Total notOlder := ⟨fun x y => Nat.le_total y.2.1 x.2.1⟩
  have : IsTrans _ notOlder := ⟨fun _ _ _ first second => Nat.le_trans second first⟩
  rw [newestFirst_eq]
  exact List.pairwise_insertionSort _ _

/-- In a list by falling sequence number, a record stands behind as many as are newer. -/
theorem getElem?_newer {l : List (Nat × Nat × Record)} (falling : l.Pairwise notOlder)
    (distinct : ∀ x ∈ l, ∀ y ∈ l, x.2.1 = y.2.1 → x = y) {x : Nat × Nat × Record} (listed : x ∈ l) :
    l[(l.filter fun y => decide (x.2.1 < y.2.1)).length]? = some x := by
  induction l with
  | nil => cases listed
  | cons y rest ih =>
    obtain ⟨head, falling⟩ := List.pairwise_cons.mp falling
    by_cases newer : x.2.1 < y.2.1
    · have later : x ∈ rest := (List.mem_cons.mp listed).resolve_left (by rintro rfl; exact Nat.lt_irrefl _ newer)
      have tail := ih falling (fun a ha b hb => distinct a (List.mem_cons_of_mem _ ha) b (List.mem_cons_of_mem _ hb)) later
      rw [List.filter_cons_of_pos (by simpa using newer)]
      simpa using tail
    · have first : y = x := by
        rcases List.mem_cons.mp listed with same | later
        · exact same.symm
        · exact distinct y List.mem_cons_self x listed (Nat.le_antisymm (Nat.not_lt.mp newer) (head x later))
      have noneNewer : (y :: rest).filter (fun z => decide (x.2.1 < z.2.1)) = [] := by
        refine List.filter_eq_nil_iff.mpr fun z member => ?_
        rcases List.mem_cons.mp member with rfl | later
        · simpa using newer
        · simpa [← first] using head z later
      rw [noneNewer]
      simp [first]

/-- The n-th newest record is the one with exactly n newer ones. -/
theorem newestFirst_getElem? {s : State} (stores : StoreInv s) {x : Nat × Nat × Record} (listed : x ∈ validRecords s.rs.array) :
    (newestFirst s.rs.array)[((validRecords s.rs.array).filter fun y => decide (x.2.1 < y.2.1)).length]? = some x := by
  have same := newestFirst_perm s.rs.array
  rw [← (same.filter _).length_eq]
  exact getElem?_newer (newestFirst_pairwise _)
    (fun _ hx _ hy => stores.eq_of_seq_eq (same.mem_iff.mp hx) (same.mem_iff.mp hy)) (same.mem_iff.mpr listed)

/-! ## What a selector names (R146) -/

/-- Of fewer than 65 Valid records fewer than 64 are newer than one of them. -/
theorem StoreInv.newer_le {s : State} (stores : StoreInv s) {x : Nat × Nat × Record} (listed : x ∈ validRecords s.rs.array) :
    ((validRecords s.rs.array).filter fun y => decide (x.2.1 < y.2.1)).length ≤ 63 := by
  obtain ⟨place, _⟩ := List.getElem?_eq_some_iff.mp (newestFirst_getElem? stores listed)
  have length := (newestFirst_perm s.rs.array).length_eq
  have records := length_validRecords_le s.rs.array
  have slots := stores.array.length_le
  omega

theorem RecordStore.select_newest {s : State} (stores : StoreInv s) {i q : Nat} {r : Record}
    (slot : slotAt i s.rs.array = some (.valid q r)) :
    s.rs.select 0 ((validRecords s.rs.array).filter fun x => decide (q < x.2.1)).length = some (some (i, q), r) := by
  have listed := (mem_validRecords stores.array.1).mpr slot
  have newest := newestFirst_getElem? stores listed
  simp only [RecordStore.select, if_pos (stores.newer_le listed), newest, Option.map_some]

theorem RecordStore.select_newest_none {rs : RecordStore} {value : Nat} (beyond : (validRecords rs.array).length ≤ value) :
    rs.select 0 value = none := by
  have off : (newestFirst rs.array)[value]? = none :=
    List.getElem?_eq_none ((newestFirst_perm rs.array).length_eq ▸ beyond)
  simp [RecordStore.select, off]

theorem RecordStore.select_seq {s : State} (stores : StoreInv s) {i q : Nat} {r : Record}
    (slot : slotAt i s.rs.array = some (.valid q r)) : s.rs.select 1 q = some (some (i, q), r) := by
  have listed := (mem_validRecords stores.array.1).mpr slot
  have found : (validRecords s.rs.array).find? (fun x => x.2.1 == q) = some (i, q, r) := by
    cases search : (validRecords s.rs.array).find? (fun x => x.2.1 == q) with
    | none => exact absurd (List.find?_eq_none.mp search _ listed) (by simp)
    | some y =>
      have number : y.2.1 = q := by simpa using List.find?_some search
      rw [stores.eq_of_seq_eq (List.mem_of_find?_eq_some search) listed number]
  simp [RecordStore.select, found]

theorem RecordStore.select_seq_none {s : State} (stores : StoreInv s) {value : Nat}
    (absent : ∀ i r, slotAt i s.rs.array ≠ some (.valid value r)) : s.rs.select 1 value = none := by
  have off : (validRecords s.rs.array).find? (fun x => x.2.1 == value) = none := by
    refine List.find?_eq_none.mpr fun ⟨i, q, r⟩ listed number => ?_
    obtain rfl : q = value := by simpa using number
    exact absent i r ((mem_validRecords stores.array.1).mp listed)
  simp [RecordStore.select, off]

theorem RecordStore.select_queued {rs : RecordStore} {value : Nat} {r : Record} (queued : rs.queue[value]? = some r) :
    rs.select 2 value = some (none, r) := by
  simp [RecordStore.select, queued]

theorem RecordStore.select_queued_none {rs : RecordStore} {value : Nat} (beyond : rs.queue.length ≤ value) :
    rs.select 2 value = none := by
  simp [RecordStore.select, beyond]

theorem RecordStore.select_form_none (rs : RecordStore) {form : Nat} (unknown : 3 ≤ form) (value : Nat) :
    rs.select form value = none := by
  obtain ⟨k, rfl⟩ := Nat.exists_eq_add_of_le' unknown
  rfl

/-! ## READ RECORD (R146, R166) -/

theorem StoreState.busyForRead_iff {x : StoreState} : x.busyForRead = true ↔ x = .scanning ∨ ∃ k, x = .clearing k := by
  cases x <;> simp [StoreState.busyForRead]

theorem length_causeListWords {causes : List (Cause × Nat)} (few : causes.length ≤ 8) : (causeListWords causes).length = 16 := by
  have pairs : ((causes.map fun x => [natWord x.1.val, natWord x.2]).flatten).length = causes.length * 2 := by
    simp [List.length_flatten, Function.comp_def]
  rw [causeListWords, fillWords, List.length_append, List.length_replicate, pairs]
  omega

theorem length_summaryWords (x : Option Summary) : (summaryWords x).length = 6 := by cases x <;> rfl

theorem Record.length_words {r : Record} (bounded : r.bounded) (stored : Option (Nat × Nat)) : (r.words stored).length = 44 := by
  simp [Record.words, wideWords, MotorReading.words, length_causeListWords bounded.1, length_summaryWords]

theorem execReadRecord_busy {s : State} (ready : s.ready) (tag : Byte) (form hi lo : Word)
    (busy : s.rs.state.busyForRead = true) :
    exec (.readRecord tag form hi lo) s = .next (s.heardC.withReply tag 12 .refusedBusy (List.replicate 44 0)) :=
  congrArg Host.Outcome.next (State.request_of_answer (result := []) ready (by exact if_pos busy))

theorem execReadRecord_found {s : State} (ready : s.ready) (tag : Byte) {form hi lo : Word} (free : ¬ s.rs.state.busyForRead = true)
    {stored : Option (Nat × Nat)} {r : Record} (bounded : r.bounded)
    (selected : s.rs.select form.toNat (wideValue hi lo) = some (stored, r)) :
    exec (.readRecord tag form hi lo) s = .next (s.heardC.withReply tag 12 .done (r.words stored)) := by
  refine congrArg _ ((State.request_of_answer ready ((if_neg free).trans ?_)).trans
    (congrArg _ (fillWords_of_length (Record.length_words bounded stored))))
  have selected' : s.heardC.rs.select form.toNat (wideValue hi lo) = some (stored, r) := selected
  rw [selected']

theorem execReadRecord_missing {s : State} (ready : s.ready) (tag : Byte) {form hi lo : Word}
    (free : ¬ s.rs.state.busyForRead = true) (selected : s.rs.select form.toNat (wideValue hi lo) = none) :
    exec (.readRecord tag form hi lo) s = .next (s.heardC.withReply tag 12 .badIndex (List.replicate 44 0)) := by
  refine congrArg _ (State.request_of_answer (result := []) ready ((if_neg free).trans ?_))
  have selected' : s.heardC.rs.select form.toNat (wideValue hi lo) = none := selected
  rw [selected']

/-! ## An unknown Request (R161, R174) -/

theorem resultWords_unknown {code : Nat} (outside : code = 0 ∨ 20 < code) : resultWords code = 0 := by
  unfold resultWords
  split <;> omega

theorem execUnknownRequest_unknown {s : State} (ready : s.ready) (tag : Byte) {code : Byte} (params : List Word)
    (outside : code = 0 ∨ 20 < code.toNat) :
    exec (.unknownRequest tag code params) s = .next (s.heardC.withReply tag code .unknown []) := by
  have number : code.toNat = 0 ∨ 20 < code.toNat := outside.imp_left fun zero => by simp [zero]
  have unknown : (!knownRequestCode code) = true := by
    simp only [knownRequestCode, Bool.not_eq_true', Bool.and_eq_false_iff, decide_eq_false_iff_not]
    omega
  have reply := State.request_of_answer ready (tag := tag) (code := code.toNat) (body := fun s => s.answer .unknown) rfl
  rw [BitVec.ofNat_toNat, BitVec.setWidth_eq, resultWords_unknown number] at reply
  exact congrArg _ ((if_pos unknown).trans reply)

theorem execUnknownRequest_linkControl (s : State) (tag : Byte) {link op : Word} (outside : 6 ≤ op.toNat) :
    exec (.unknownRequest tag 16 [link, op]) s = .next (s.linkControl tag link fun s _ => (s, .badIndex)) := by
  have unnamed : unnamedLinkOperation 16 [link, op] = true := by simpa [unnamedLinkOperation] using outside
  exact congrArg _ (if_pos unnamed)

theorem linkOfCode_none {link : Word} (outside : 4 ≤ link.toNat) : linkOfCode link = none := by
  obtain ⟨k, code⟩ := Nat.exists_eq_add_of_le' outside
  rw [linkOfCode, code]
  rfl

theorem linkOfCode_linkCode (l : LinkId) : linkOfCode (BitVec.ofNat 16 (linkCode l)) = some l := by cases l <;> rfl

theorem State.linkControl_noLink {s : State} (ready : s.ready) (tag : Byte) {link : Word} (outside : 4 ≤ link.toNat)
    (op : State → LinkId → State × Status) :
    s.linkControl tag link op = s.heardC.withReply tag 16 .badIndex [0, 0, 0] := by
  unfold State.linkControl
  simp only [linkOfCode_none outside]
  exact State.request_of_answer (result := []) ready rfl

theorem State.linkControl_badOperation {s : State} (ready : s.ready) (tag : Byte) (l : LinkId) :
    s.linkControl tag (BitVec.ofNat 16 (linkCode l)) (fun s _ => (s, .badIndex)) =
      s.heardC.withReply tag 16 .badIndex (s.heardC.linkWords l) := by
  unfold State.linkControl
  simp only [linkOfCode_linkCode]
  exact State.request_of_answer (result := s.heardC.linkWords l) ready rfl

/-! ## O56 -/

/-- Settles O56: READ STATUS by the words of `State.statusWords_eq`, the others by what each Request answers in its cases. -/
theorem readsChangeNothing : Obligations.ReadsChangeNothing := by
  intro tag s ready queues stores v bit actionCode linkWords motorWord
  have bit_eq (x : Bool) (n : Nat) : bit x n = flag x * 2 ^ n := (flag_mul x (2 ^ n)).symm
  have linkWords_eq (l : LinkId) : linkWords (s.link l) (s.relockActs l) = s.statusLinkWords l := by
    simp only [linkWords, bit_eq]
    rfl
  have motorWord_eq (r : Regulator) : motorWord r = r.statusWord := by
    simp only [motorWord, bit_eq, Regulator.statusWord]
    cases r.calibration <;> rfl
  refine ⟨⟨v.statusWords, execReadStatus_ready ready tag, v.statusWords_length, ?_⟩,
    fun n => execReadCapture_notFrozen ready tag n, fun n => execReadCapture_beyond ready tag,
    fun n x frozen valid slot => execReadCapture_valid ready tag frozen valid slot,
    fun form hi lo busy => execReadRecord_busy ready tag form hi lo (StoreState.busyForRead_iff.mpr busy), ?_,
    fun code params outside => execUnknownRequest_unknown ready tag params outside, ?_⟩
  · have links := s.statusWords_links
    have motors := s.statusWords_motors
    simp only [← linkWords_eq] at links
    simp only [← motorWord_eq] at motors
    simp only [bit_eq]
    rw [State.statusWords_heardC]
    refine ⟨?_, ?_, s.statusWords_acting, ?_, ?_, ?_, links, ?_, ?_, motors, ?_, ?_, ?_, s.statusWords_overall, ?_,
      s.statusWords_grades, s.statusWords_checks, fun wire => State.statusWords_noWireCheck wire,
      fun w wire => State.statusWords_wireCheck wire, s.statusWords_windows, ?_⟩
    -- the words that hold what R175 names as it stands
    all_goals
      rw [s.statusWords_eq]
      rfl
  · intro notScanning notClearing hi lo value found missing
    have free : ¬ s.rs.state.busyForRead = true := by
      simpa [StoreState.busyForRead_iff] using ⟨notScanning, notClearing⟩
    have reads {form : Word} {stored : Option (Nat × Nat)} {r : Record} (bounded : r.bounded)
        (selected : s.rs.select form.toNat value = some (stored, r)) : found form r stored :=
      execReadRecord_found ready tag free bounded selected
    have lacks {form : Word} (selected : s.rs.select form.toNat value = none) : missing form :=
      execReadRecord_missing ready tag free selected
    refine ⟨fun i q r slot count => ?_, fun beyond => lacks (RecordStore.select_newest_none beyond), fun i r slot => ?_,
      fun absent => lacks (RecordStore.select_seq_none stores absent), fun r queued => ?_,
      fun beyond => lacks (RecordStore.select_queued_none beyond),
      fun form unknown => lacks (RecordStore.select_form_none _ unknown _)⟩
    · exact reads (stores.records i q r slot) (count ▸ RecordStore.select_newest stores slot)
    · exact reads (stores.records i value r slot) (RecordStore.select_seq stores slot)
    · exact reads (queues.recordLists r (List.mem_of_getElem? queued)) (RecordStore.select_queued queued)
  · intro link op outside
    rw [execUnknownRequest_linkControl s tag outside]
    refine ⟨fun noLink => congrArg _ (State.linkControl_noLink ready tag noLink _), fun l named => ?_⟩
    rw [named, State.linkControl_badOperation ready]
    simp only [bit_eq]
    cases l <;> rfl

end Sys2Proof.Machine
end

section
/-! SUPPORT. O58: COPY BANK and SWITCH BANK (R171, R172). What each request answers, and the validation of a bank: a table's indices are
judged in rising order, so the first that fails is the lowest that fails (`firstOffending_lowest`). -/

namespace Sys2Proof.Machine

/-! ## What table requests share -/

theorem tableOfCode_none {table : Word} (outside : 4 < table.toNat) : tableOfCode table = none := by
  obtain ⟨k, code⟩ := Nat.exists_eq_add_of_le' (Nat.succ_le_of_lt outside)
  rw [tableOfCode, code]
  rfl

theorem tableOfCode_code (t : TableId) : tableOfCode (BitVec.ofNat 16 t.code) = some t := by cases t <;> rfl

/-- A Request whose body answers with `t` leaves `t` with one Reply queued. -/
theorem State.request_of_next {s t : State} (ready : s.ready) {tag : Byte} {code : Nat} {body : State → Answer} {status : Status}
    {result : List Word} (answers : body s.heardC = t.answer status result) :
    s.request tag code body = t.withReply tag (BitVec.ofNat 8 code) status (fillWords (resultWords code) result) := by
  rw [State.request_ready ready, answers]
  exact State.queueReply_eq _ _ _ _ _

theorem TableFlags.get_set (f : TableFlags) (b : Bool) (t u : TableId) :
    (f.set b t).get u = if u = t then b else f.get u := by
  cases t <;> cases u <;> rfl

/-! ## COPY BANK (R171) -/

theorem execCopyBank_noTable {s : State} (ready : s.ready) (tag : Byte) {table : Word} (outside : 4 < table.toNat) :
    exec (.copyBank tag table) s = .next (s.heardC.withReply tag 4 .badIndex []) := by
  refine congrArg Host.Outcome.next (State.request_of_answer (result := []) ready ?_)
  simp only [tableOfCode_none outside]

theorem execCopyBank_pending {s : State} (ready : s.ready) (tag : Byte) {t : TableId} (pending : s.me.pendingSwitch.get t = true) :
    exec (.copyBank tag (BitVec.ofNat 16 t.code)) s = .next (s.heardC.withReply tag 4 .refusedBusy []) := by
  refine congrArg Host.Outcome.next (State.request_of_answer (result := []) ready ?_)
  simp only [tableOfCode_code]
  exact if_pos pending

theorem execCopyBank_done {s : State} (ready : s.ready) (tag : Byte) {t : TableId} (free : s.me.pendingSwitch.get t = false) :
    exec (.copyBank tag (BitVec.ofNat 16 t.code)) s =
      .next ((s.heardC.setMe { s.me with standby := s.me.standby.take s.me.active t }).withReply tag 4 .done []) := by
  refine congrArg Host.Outcome.next (State.request_of_next (result := []) ready ?_)
  simp only [tableOfCode_code]
  exact if_neg (Bool.eq_false_iff.mp free)

/-! ## SWITCH BANK (R172) -/

theorem execSwitchBank_noTable {s : State} (ready : s.ready) (tag : Byte) {table : Word} (outside : 4 < table.toNat) :
    exec (.switchBank tag table) s = .next (s.heardC.withReply tag 5 .badIndex [0]) := by
  refine congrArg Host.Outcome.next (State.request_of_answer (result := [0]) ready ?_)
  simp only [tableOfCode_none outside]

theorem execSwitchBank_pending {s : State} (ready : s.ready) (tag : Byte) {t : TableId} (pending : s.me.pendingSwitch.get t = true) :
    exec (.switchBank tag (BitVec.ofNat 16 t.code)) s = .next (s.heardC.withReply tag 5 .refusedBusy [0]) := by
  refine congrArg Host.Outcome.next (State.request_of_answer (result := [0]) ready ?_)
  simp only [tableOfCode_code]
  exact if_pos pending

theorem execSwitchBank_offending {s : State} (ready : s.ready) (tag : Byte) {t : TableId}
    (free : s.me.pendingSwitch.get t = false) {n : Nat} (offends : s.me.standby.offending t = some n) :
    exec (.switchBank tag (BitVec.ofNat 16 t.code)) s = .next (s.heardC.withReply tag 5 .badTable [natWord n]) := by
  refine congrArg Host.Outcome.next (State.request_of_answer (result := [natWord n]) ready ?_)
  simp only [tableOfCode_code]
  refine (if_neg (Bool.eq_false_iff.mp free)).trans ?_
  have offends' : s.heardC.me.standby.offending t = some n := offends
  rw [offends']

theorem execSwitchBank_valid {s : State} (ready : s.ready) (tag : Byte) {t : TableId}
    (free : s.me.pendingSwitch.get t = false) (valid : s.me.standby.offending t = none) :
    exec (.switchBank tag (BitVec.ofNat 16 t.code)) s =
      .next ((s.heardC.setMe { s.me with pendingSwitch := s.me.pendingSwitch.set true t }).withReply tag 5 .pending [0]) := by
  refine congrArg Host.Outcome.next (State.request_of_next (result := [0]) ready ?_)
  simp only [tableOfCode_code]
  refine (if_neg (Bool.eq_false_iff.mp free)).trans ?_
  have valid' : s.heardC.me.standby.offending t = none := valid
  rw [valid']
  rfl

/-! ## Validation (R172) -/

/-- Of judged indices in rising order, `firstOffending` finds the lowest that fails. -/
theorem firstOffending_eq_some_iff {l : List (Nat × Bool)} (rising : (l.map Prod.fst).Pairwise (· < ·)) {n : Nat} :
    firstOffending l = some n ↔ (n, false) ∈ l ∧ ∀ k, k < n → (k, false) ∉ l := by
  induction l with
  | nil => simp [firstOffending]
  | cons judged rest ih =>
    obtain ⟨m, ok⟩ := judged
    obtain ⟨below, restRising⟩ := List.pairwise_cons.mp rising
    have above {k : Nat} {o : Bool} (listed : (k, o) ∈ rest) : m < k := below k (List.mem_map_of_mem listed)
    cases ok with
    | true => simpa [firstOffending] using ih restRising
    | false =>
      simp only [firstOffending, Bool.false_eq_true, if_false, Option.some.injEq, List.mem_cons, Prod.mk.injEq, and_true, not_or]
      constructor
      · rintro rfl
        exact ⟨.inl rfl, fun k lower => ⟨lower.ne, fun listed => (above listed).not_gt lower⟩⟩
      · rintro ⟨rfl | listed, lowest⟩
        · rfl
        · exact absurd rfl (lowest m (above listed)).1

/-- `firstOffending` on a list that judges each of `indices` by `bad`. -/
theorem firstOffending_lowest {l : List (Nat × Bool)} {indices : List Nat} (judged : l.map Prod.fst = indices)
    (rising : indices.Pairwise (· < ·)) {bad : Nat → Prop} (judges : ∀ n, (n, false) ∈ l ↔ bad n) (n : Nat) :
    firstOffending l = some n ↔ bad n ∧ ∀ k, k < n → ¬ bad k := by
  simp only [firstOffending_eq_some_iff (judged ▸ rising), judges]

theorem MotorEntry.valid_eq_false_iff (e : MotorEntry) :
    e.valid = false ↔ ¬ (e.t1 ≤ e.t2 ∧ e.t2 ≤ e.t3 ∧ e.uLo < e.uHi) := decide_eq_false_iff_not

theorem ChannelEntry.valid_eq_false_iff (e : ChannelEntry) :
    e.valid = false ↔ ∃ i : Fin 4, ¬ (e.alert[i] ≤ e.alarm[i] ∧ e.alarm[i] ≤ e.trip[i]) := by
  simp [ChannelEntry.valid, List.all_eq_false]

theorem VibrationScalars.valid_eq_false_iff (e : VibrationScalars) :
    e.valid = false ↔ ¬ (e.vp2 < e.vp1 ∧ e.vp3 < e.vp2 ∧ e.refLo < e.refHi) := decide_eq_false_iff_not

/-! ## O58 -/

/-- Settles O58: each answer of the two requests is an equation above, and each table's judged indices rise, so the first that fails is
the lowest. -/
theorem banksAreCopiedAndSwitched : Obligations.BanksAreCopiedAndSwitched := by
  constructor
  · intro tag table s ready v
    refine ⟨fun outside => ⟨execCopyBank_noTable ready tag outside, execSwitchBank_noTable ready tag outside⟩, ?_⟩
    rintro t rfl
    refine ⟨fun pending => ⟨execCopyBank_pending ready tag pending, execSwitchBank_pending ready tag pending⟩,
      fun free => ⟨?_, fun n => execSwitchBank_offending ready tag free,
        fun valid => ⟨_, execSwitchBank_valid ready tag free valid, fun u => ?_⟩⟩⟩
    · refine (execCopyBank_done ready tag free).trans ?_
      cases t <;> rfl
    · rw [TableFlags.get_set]
      by_cases same : u = t <;> simp [same]
  · intro b offends p motorBad k
    refine ⟨?_, ?_, ?_, ?_, ?_⟩
    · refine firstOffending_lowest (indices := [0, 1]) rfl (by decide) fun n => ?_
      simp only [List.mem_cons, List.not_mem_nil, or_false, Prod.mk.injEq, eq_comm (a := false), MotorEntry.valid_eq_false_iff,
        motorBad]
    · refine firstOffending_lowest (indices := [2, 3, 4, 5, 6, 7, 8]) rfl (by decide) fun n => ?_
      simp [Fin.exists_fin_succ, or_assoc, p]
    · refine firstOffending_lowest (indices := [0, 1, 2, 3, 4, 5, 6, 7, 8]) rfl (by decide) fun n => ?_
      simp only [List.mem_append, List.mem_map, List.mem_finRange, true_and, List.mem_singleton, Prod.mk.injEq,
        ChannelEntry.valid_eq_false_iff, eq_comm (a := false), VibrationScalars.valid_eq_false_iff, k, eq_comm (a := n)]
    · simp [offends, Tables.offending]
    · refine firstOffending_lowest (indices := [4]) rfl (by decide) fun n => ?_
      simp

end Sys2Proof.Machine
end

section
/-! SUPPORT. O55: READ ENTRY (R170). The fields of each kind of entry with the words they travel in (`Travels`, R167), and the Request
answered with them or refused. -/

namespace Sys2Proof.Machine

/-! ## The words of each entry (R167) -/

/-- The fields `xs` of the layout `fs` travel in the words `ws`, within an entry's 24. -/
structure Travels (fs : List FieldSpec) (xs : List Int) (ws : List Word) : Prop where
  lengths : fs.length = xs.length
  words : writeFields fs xs = ws
  fits : ws.length ≤ 24

theorem Travels.of_eq {fs : List FieldSpec} {xs : List Int} {ws ws' : List Word} (travels : Travels fs xs ws) (same : ws = ws') :
    Travels fs xs ws' := same ▸ travels

theorem MotorEntry.travels (e : MotorEntry) : Travels motorFields e.toFields
    [intWord e.kpD, intWord e.kiD, intWord e.kpQ, intWord e.kiQ, intWord e.mceil, intWord e.idMax, intWord e.ocThreshold,
      intWord e.offLim, intWord e.t1, intWord e.t2, intWord e.t3, intWord e.tHyst, intWord e.f1, intWord e.f2, intWord e.uLo,
      intWord e.uHi, intWord e.uHyst, intWord e.nStale] :=
  ⟨rfl, rfl, Nat.le_of_ble_eq_true rfl⟩

theorem BandEntry.travels (e : BandEntry) :
    Travels bandFields e.toFields (wideWords e.period ++ [intWord e.limitA, intWord e.limitB, intWord e.total]) :=
  ⟨rfl, rfl, Nat.le_of_ble_eq_true rfl⟩

theorem TorqueScalars.travels (e : TorqueScalars) : Travels torqueScalarFields e.toFields
    ([intWord e.lcontA, intWord e.lcontB, intWord e.lcontTotal] ++ wideWords e.accMax ++ wideWords e.accRelease
      ++ [intWord e.decay, intWord e.derateAction, intWord e.rampStep, intWord e.imbThr, intWord e.imbMin, intWord e.imbCount]
      ++ wideWords e.stallTime) :=
  ⟨rfl, rfl, Nat.le_of_ble_eq_true rfl⟩

theorem VibrationScalars.travels (e : VibrationScalars) : Travels vibrationScalarFields e.toFields
    ([intWord e.g, intWord e.w, intWord e.k, intWord e.pUp, intWord e.pDown, intWord e.hyst]
      ++ wideWords e.vp1 ++ wideWords e.vp2 ++ wideWords e.vp3
      ++ [intWord e.derate[0], intWord e.derate[1], intWord e.derate[2], intWord e.derate[3], intWord e.refLo, intWord e.refHi]
      ++ wideWords e.flatFloor ++ [intWord e.flatCount, intWord e.minShift, intWord e.nW]) :=
  ⟨rfl, rfl, Nat.le_of_ble_eq_true rfl⟩

theorem intWord_boolField (x : Bool) : intWord (boolField x) = if x then 1 else 0 := by cases x <;> rfl

theorem Priority.code_eq (p : Priority) : (p.code : Int) = boolField (decide (p = .low)) := by cases p <;> rfl

theorem edgeCode_eq (x : Edge) : (edgeCode x : Int) = boolField (decide (x = .falling)) := by cases x <;> rfl

theorem toList_vector_four {α : Type} (v : Vector α 4) : v.toList = [v[0], v[1], v[2], v[3]] := by
  obtain ⟨⟨l⟩, size⟩ := v
  obtain ⟨a, b, c, d, rfl⟩ := List.length_eq_four.mp size
  rfl

theorem ChannelEntry.travels (e : ChannelEntry) : Travels channelFields e.toFields
    [intWord (boolField e.enable), intWord e.alert[0], intWord e.alert[1], intWord e.alert[2], intWord e.alert[3],
      intWord e.alarm[0], intWord e.alarm[1], intWord e.alarm[2], intWord e.alarm[3],
      intWord e.trip[0], intWord e.trip[1], intWord e.trip[2], intWord e.trip[3]] := by
  have fields : e.toFields = boolField e.enable ::
      ([e.alert[0], e.alert[1], e.alert[2], e.alert[3]] ++ [e.alarm[0], e.alarm[1], e.alarm[2], e.alarm[3]]
        ++ [e.trip[0], e.trip[1], e.trip[2], e.trip[3]]).map Int.ofNat := by
    simp only [ChannelEntry.toFields, toList_vector_four]
  rw [fields]
  exact ⟨rfl, rfl, Nat.le_of_ble_eq_true rfl⟩

theorem ActionEntry.travels (e : ActionEntry) : Travels actionFields e.toFields
    [intWord e.action.code, intWord (boolField e.capture), intWord (boolField e.log), intWord (boolField e.latch),
      intWord (boolField (decide (e.priority = .low)))] := by
  rw [← Priority.code_eq]
  exact ⟨rfl, rfl, Nat.le_of_ble_eq_true rfl⟩

theorem TripInputEntry.travels (e : TripInputEntry) :
    Travels tripInputFields e.toFields [intWord e.sense.code, intWord e.minDuration] :=
  ⟨rfl, rfl, Nat.le_of_ble_eq_true rfl⟩

theorem MarkerEntry.travels (e : MarkerEntry) :
    Travels markerFields e.toFields
      ([intWord (boolField (decide (e.edge = .falling)))] ++ wideWords e.minPeriod ++ wideWords e.maxPeriod) := by
  rw [← edgeCode_eq]
  exact ⟨rfl, rfl, Nat.le_of_ble_eq_true rfl⟩

theorem LinkEntry.travels (e : LinkEntry) :
    Travels linkFields e.toFields [intWord e.timeout, intWord e.lockCode.val, intWord (boolField e.relock)] :=
  ⟨rfl, rfl, Nat.le_of_ble_eq_true rfl⟩

/-! ## The entries of a bank (R167) -/

/-- No entry stands beyond a table's last (R167). -/
theorem Tables.entry_eq_none (b : Tables) {t : TableId} {i : Nat} (beyond : tableEntries t ≤ i) : b.entry t i = none := by
  cases t with
  | motor =>
    obtain ⟨k, rfl⟩ := Nat.exists_eq_add_of_le' beyond
    rfl
  | torque | vibration => exact (dif_neg (Nat.not_lt_of_lt beyond)).trans (if_neg (Nat.ne_of_gt beyond))
  | action => exact dif_neg (Nat.not_lt.mpr beyond)
  | line =>
    have noInput : 4 ≤ i := Nat.le_trans (by decide) beyond
    refine (dif_neg (Nat.not_lt.mpr noInput)).trans ?_
    obtain ⟨k, rfl⟩ := Nat.exists_eq_add_of_le' beyond
    rfl

/-! ## READ ENTRY (R170) -/

theorem execReadEntry_refused {s : State} (ready : s.ready) (tag : Byte) {table bank index : Word}
    (refused : 4 < table.toNat ∨ 1 < bank.toNat ∨ ∃ t, tableOfCode table = some t ∧ tableEntries t ≤ index.toNat) :
    exec (.readEntry tag table bank index) s = .next (s.heardC.withReply tag 2 .badIndex (List.replicate 24 0)) := by
  refine congrArg Host.Outcome.next (State.request_of_answer (result := []) ready ?_)
  cases named : tableOfCode table with
  | none => rfl
  | some t =>
    by_cases noBank : 1 < bank.toNat
    · exact if_pos noBank
    · refine (if_neg noBank).trans ?_
      have beyond : tableEntries t ≤ index.toNat := by
        rcases refused with outside | noBank' | ⟨u, named', beyond⟩
        · exact absurd (named.symm.trans (tableOfCode_none outside)) (Option.some_ne_none t)
        · exact absurd noBank' noBank
        · exact Option.some.inj (named.symm.trans named') ▸ beyond
      simp only [Tables.entry_eq_none _ beyond]

theorem length_fillWords {n : Nat} {ws : List Word} (fits : ws.length ≤ n) : (fillWords n ws).length = n := by
  rw [fillWords, List.length_append, List.length_replicate]
  omega

theorem execReadEntry_entry {s : State} (ready : s.ready) (tag : Byte) {t : TableId} {bank index : Word} (named : bank.toNat ≤ 1)
    {fs : List FieldSpec} {xs : List Int} {ws : List Word}
    (entry : (if bank = 0 then s.me.active else s.me.standby).entry t index.toNat = some (fs, xs)) (travels : Travels fs xs ws) :
    exec (.readEntry tag (BitVec.ofNat 16 t.code) bank index) s = .next (s.heardC.withReply tag 2 .done (fillWords 24 ws)) := by
  refine congrArg Host.Outcome.next ((State.request_of_answer (result := fillWords 24 ws) ready ?_).trans
    (congrArg _ (fillWords_of_length (length_fillWords travels.fits))))
  have entry' : (if bank.toNat = 0 then s.heardC.me.active else s.heardC.me.standby).entry t index.toNat = some (fs, xs) := by
    rw [← entry]
    simp only [← BitVec.toNat_inj (x := bank)]
    rfl
  simp only [tableOfCode_code, if_neg (Nat.not_lt.mpr named), entry']
  rw [entryWords, travels.words]

/-! ## O55 -/

/-- Settles O55: a table, bank or index that does not exist is refused, and each entry travels in the words of its fields, index by
index. -/
theorem readEntryReturnsTheBank : Obligations.ReadEntryReturnsTheBank := by
  intro tag table bank index s ready i b w wide bit fields
  refine ⟨execReadEntry_refused ready tag, ?_⟩
  rintro t rfl named inTable
  have bit_eq (x : Bool) : bit x = intWord (boolField x) := (intWord_boolField x).symm
  have travels : ∃ fs xs, b.entry t i = some (fs, xs) ∧ Travels fs xs (fields t) := by
    clear_value i b
    cases t with
    | motor =>
      have inTable : i < 2 := inTable
      rcases (by omega : i = 0 ∨ i = 1) with rfl | rfl
      · exact ⟨_, _, rfl, b.motor.a.travels⟩
      · exact ⟨_, _, rfl, b.motor.b.travels⟩
    | torque =>
      by_cases band : i < 8
      · refine ⟨_, _, dif_pos band, ?_⟩
        simp only [fields, dif_pos band]
        exact b.torque.bands[i].travels
      · obtain rfl : i = 8 := Nat.le_antisymm (Nat.le_of_lt_succ inTable) (Nat.not_lt.mp band)
        exact ⟨_, _, rfl, b.torque.scalars.travels⟩
    | vibration =>
      by_cases channel : i < 8
      · refine ⟨_, _, dif_pos channel, ?_⟩
        simp only [fields, dif_pos channel, bit_eq]
        exact b.vibration.channels[i].travels
      · obtain rfl : i = 8 := Nat.le_antisymm (Nat.le_of_lt_succ inTable) (Nat.not_lt.mp channel)
        exact ⟨_, _, rfl, b.vibration.scalars.travels⟩
    | action =>
      have inTable : i < 31 := inTable
      refine ⟨_, _, dif_pos inTable, b.action[i].travels.of_eq ?_⟩
      simp only [fields, dif_pos inTable, bit_eq]
      cases b.action[i].action <;> rfl
    | line =>
      by_cases input : i < 4
      · refine ⟨_, _, dif_pos input, b.line.tin[i].travels.of_eq ?_⟩
        simp only [fields, dif_pos input]
        cases b.line.tin[i].sense <;> rfl
      · have inTable : i < 10 := inTable
        simp only [fields, bit_eq]
        rcases (by omega : i = 4 ∨ i = 5 ∨ i = 6 ∨ i = 7 ∨ i = 8 ∨ i = 9) with rfl | rfl | rfl | rfl | rfl | rfl
        · exact ⟨_, _, rfl, b.line.marker.travels⟩
        · exact ⟨_, _, rfl, b.line.linkC.travels⟩
        · exact ⟨_, _, rfl, b.line.linkA.travels⟩
        · exact ⟨_, _, rfl, b.line.linkB.travels⟩
        · exact ⟨_, _, rfl, b.line.linkS.travels⟩
        · exact ⟨_, _, rfl, rfl, rfl, Nat.le_of_ble_eq_true rfl⟩
  obtain ⟨fs, xs, entry, travels⟩ := travels
  exact ⟨travels.fits, execReadEntry_entry ready tag named entry travels, fs, xs, entry, travels.lengths, travels.words⟩

end Sys2Proof.Machine
end
